-- ==== Sys2Proof/Word.lean ====
section
/-! DEFINITION. The word types of the block: everything it handles is an unsigned bit vector (00_scope.md R12). -/

namespace Sys2Proof

/-- An unsigned 8-bit value (R12). -/
abbrev Byte := BitVec 8

/-- Half a byte, what the CRC engine consumes at a time (R122). -/
abbrev Nibble := BitVec 4

/-- A 16-bit register number, length or DCB pair. -/
abbrev HalfWord := BitVec 16

/-- A 32-bit job word (R100). -/
abbrev JobWord := BitVec 32

end Sys2Proof
end

