-- ==== Sys2Proof/Syntax.lean ====
section
/-! DEFINITION. The instructions: one constructor per row of spec/opcode_table.json. -/

namespace Sys2Proof

/-- UNIT of a SET_TEMP job: 0 = Celsius, 1 = Fahrenheit (30_encoding.md R100). -/
inductive TempUnit where
  | celsius
  | fahrenheit
deriving DecidableEq, Repr

/-- The five job kinds of R101 and the two frame functions of R91. A job kind carries the operands of its word; a frame
function carries none, since its operands are the frame in TX_BUF (log 8). -/
inductive Instr where
  /-- KIND 0, read device status (R205). -/
  | poll (addr : Byte)
  /-- KIND 1, set the device clock (R212). -/
  | syncClock (addr : Byte)
  /-- KIND 2, set the room temperature (R216). -/
  | setTemp (addr temp : Byte) (unit : TempUnit)
  /-- KIND 3, hot-water override (R219). -/
  | setHotWater (addr : Byte) (turnOn : Bool)
  /-- KIND 4, discovery probe (R208). -/
  | probe (addr : Byte)
  /-- FUNC 0x00 of a request frame (R220). -/
  | read
  /-- FUNC 0x01 of a request frame (R221). -/
  | write
deriving DecidableEq, Repr

/-- KIND of a job (R101). -/
inductive JobKind where
  | poll
  | syncClock
  | setTemp
  | setHotWater
  | probe
deriving DecidableEq, Repr

/-- The KIND of an instruction that is a job, none for the two frame functions. -/
def Instr.jobKind : Instr → Option JobKind
  | .poll _ => some .poll
  | .syncClock _ => some .syncClock
  | .setTemp _ _ _ => some .setTemp
  | .setHotWater _ _ => some .setHotWater
  | .probe _ => some .probe
  | .read => none
  | .write => none

/-- What an instruction is read from: a 32-bit job word (format F-JOB, R100) or the FUNC byte of a request frame (format
F-REQ, byte 3, R90). -/
inductive Code where
  | job (w : JobWord)
  | func (b : Byte)
deriving DecidableEq, Repr

/-- Why a code is no instruction (R109, R91). -/
inductive DecodeError where
  /-- KIND is 5, 6 or 7. -/
  | reservedKind
  /-- A bit of RSV0 (7:4) is 1. -/
  | reservedLow
  /-- A bit of RSV1 (31:24) is 1. -/
  | reservedHigh
  /-- UNIT is 1 outside SET_TEMP. -/
  | unitOutsideSetTemp
  /-- A bit of ARG is 1 that the kind requires to be 0. -/
  | reservedArgument
  /-- FUNC is neither 0x00 nor 0x01. -/
  | reservedFunction
deriving DecidableEq, Repr

end Sys2Proof
end

