-- ==== Sys2Proof/Machine/State.lean ====
section
/-! DEFINITION. The state of the machine: the block's own elements (10_state.md R30 to R39), the host's sampled inputs
(R26), the agents' coming actions (R20) and what the block has put out (R27, R29, R104); the reasons a step can stop; and
the state after reset (R44). -/

namespace Sys2Proof.Machine

/-- SEQ_STATE (R35). -/
inductive SeqState where
  | idle
  | exec
  | send
  | receive
  | eval
  | sweep
  | stopped
deriving DecidableEq, Repr

/-- The CRC accumulators CRC_HI and CRC_LO (R30). -/
structure CrcAcc where
  hi : Byte
  lo : Byte
deriving DecidableEq, Repr

/-- WALLCLOCK, the host's local time (R26). -/
structure WallClock where
  weekday : Byte
  hour : Byte
  minute : Byte
  second : Byte
deriving DecidableEq, Repr

/-- The inputs the host drives and the block samples (R26). `known` is KNOWN[31:1]: its bit a - 1 is KNOWN[a]. -/
structure HostInputs where
  now : BitVec 32
  pollInterval : BitVec 32
  syncInterval : BitVec 32
  known : BitVec 31
  wallclock : WallClock
deriving DecidableEq, Repr

/-- One step an agent may take (R20). `block` gives the BLOCK the step; the others are the steps of the HOST (R22 to R26)
and of the CHANNEL (R29). -/
inductive Action where
  | block
  | enqueue (w : JobWord)
  | tick
  | shutdown
  | reset
  | drive (i : HostInputs)
  | rxByte (b : Byte)
  | rxTimeout
deriving DecidableEq, Repr

/-- The answers to ENQUEUE (30_encoding.md R104). -/
inductive EnqueueResponse where
  | accepted
  | rejectIllegal
  | rejectFull
deriving DecidableEq, Repr

/-- CAUSE of a NO_REPLY (30_encoding.md R105). -/
inductive Cause where
  | timeout
  | empty
  | checksum
deriving DecidableEq, Repr

/-- OUTCOME of a report (30_encoding.md R105). -/
inductive OutcomeCode where
  | ok
  | noReply
  | shortReply
  | malformedBlock
  | outOfRange
  | configuration
  | queueOverflow
deriving DecidableEq, Repr

/-- The thermostat's vendor (42_dcb_parser.md R181). -/
inductive Vendor where
  | heatmiser
  | oem
  | unknown
deriving DecidableEq, Repr

/-- The thermostat's model (R181). -/
inductive Model where
  | dt
  | dtE
  | prt
  | prtE
  | prtHw
  | unknown
deriving DecidableEq, Repr

/-- ENUM_TFMT (R181). -/
inductive TempFormat where
  | c
  | f
  | unknown
deriving DecidableEq, Repr

/-- ENUM_FROST (R181). -/
inductive Frost where
  | disabled
  | enabled
  | unknown
deriving DecidableEq, Repr

/-- ENUM_SENSOR (R181). -/
inductive Sensor where
  | builtinAir
  | remoteAir
  | floor
  | builtinAirAndFloor
  | remoteAirAndFloor
  | unknown
deriving DecidableEq, Repr

/-- ENUM_PROG (R181). -/
inductive ProgramMode where
  | fiveTwo
  | sevenDay
  | unknown
deriving DecidableEq, Repr

/-- ENUM_RUN (R181). -/
inductive RunMode where
  | heating
  | frostProtection
  | unknown
deriving DecidableEq, Repr

/-- An enum field of the record: the raw code and its name (R181). -/
structure Coded (α : Type) where
  code : Byte
  name : α
deriving DecidableEq, Repr

/-- An on/off-like field: the raw byte and its boolean view (R183). -/
structure Switch where
  raw : Byte
  isOn : Bool
deriving DecidableEq, Repr

/-- A TEMP16 field (R180): absent, or present with its whole degrees and its raw tenths. -/
inductive Temp16 where
  | absent
  | present (value : Nat) (tenths : HalfWord)
deriving DecidableEq, Repr

/-- The clock echo of the PRT layouts (R175, R176). -/
structure ClockEcho where
  weekday : Byte
  hour : Byte
  minute : Byte
  second : Byte
deriving DecidableEq, Repr

/-- The layout-dependent tail of a record (R190). -/
inductive Tail where
  | dt
  | prt (clock : ClockEcho)
  | prthw (hotWaterOn : Switch) (clock : ClockEcho)
deriving DecidableEq, Repr

/-- DeviceInfoRecord, its fields in the order of R190. -/
structure DeviceInfoRecord where
  frameLength : HalfWord
  address : Byte
  dcbLength : HalfWord
  vendor : Coded Vendor
  softwareVersion : BitVec 7
  floorLimitState : BitVec 1
  modelID : Coded Model
  temperatureFormat : Coded TempFormat
  switchDifferential : Byte
  frostProtection : Coded Frost
  calibrationOffset : HalfWord
  outputDelay : Byte
  upDownKeyLimit : Byte
  sensorSelection : Coded Sensor
  optimumStart : Byte
  rateOfChange : Byte
  programMode : Coded ProgramMode
  frostProtectTemp : Byte
  setRoomTemp : Byte
  floorMaxLimit : Byte
  floorMaxLimitEnable : Switch
  onOff : Switch
  keyLock : Switch
  runMode : Coded RunMode
  holidayHours : HalfWord
  tempHoldMinutes : HalfWord
  remoteAirTemp : Temp16
  floorTemp : Temp16
  airTemp : Temp16
  heatingOn : Switch
  tail : Tail
deriving DecidableEq, Repr

/-- What a job ends with (R105): an outcome with what it carries. QUEUE_OVERFLOW is no result of a job. -/
inductive JobResult where
  | ok (record : Option DeviceInfoRecord)
  | noReply (cause : Cause)
  | shortReply
  | malformedBlock
  | outOfRange
  | configuration
deriving DecidableEq, Repr

/-- A report record (30_encoding.md R106). `cause` is the CAUSE code of R105. -/
structure Report where
  job : JobWord
  outcome : OutcomeCode
  cause : Nat
  requeued : Bool
  present : Bool
  record : Option DeviceInfoRecord
deriving DecidableEq, Repr

/-- Why a step stops with a fault. The block itself raises none (60_exceptions.md R270); these stand for reads and writes
that no rule performs (10_state.md R42), and no state that satisfies the invariant reaches one. All are safe: the model
stops where the spec gives no value. -/
inductive Fault where
  /-- Raised by the fetch and by a job's meaning when CUR_JOB holds no value in EXEC or EVAL (R34, R42). Safe. -/
  | curJobNoValue
  /-- Raised by the fetch in SEND when TX_BUF[3] holds no value (R42). Safe. -/
  | txByteNoValue
  /-- Raised by RxByte in RECEIVE when RX_BUF has no byte RX_COUNT (R32, R60; log 7). Safe. -/
  | rxIndexOutside
  /-- Raised by a meaning in a SEQ_STATE that runs no half of it (R230; log 9); a step never asks for one. Safe. -/
  | noHalfInThisState
deriving DecidableEq, Repr

/-- Why a step is refused. -/
inductive Refusal where
  /-- Raised by an arm of `exec` that has no meaning yet. Safe. -/
  | notModelled (mnemonic : String)
  /-- Raised by a step whose CUR_JOB is an illegal word, which ENQUEUE never lets in (30_encoding.md R109,
  93_implementation_defined.md U7), or whose FUNC byte is reserved, which the block never sends (R91, U5). Safe. -/
  | illegalCode (why : DecodeError)
deriving DecidableEq, Repr

/-- The machine. -/
structure State where
  /-- SEQ_STATE (R35). -/
  seqState : SeqState
  /-- TICK_PENDING (R36). -/
  tickPending : Bool
  /-- SHUTDOWN_REQ (R37). -/
  shutdownReq : Bool
  /-- OVERFLOW (R38). -/
  overflow : Bool
  /-- Q, the head first; Q_COUNT is its length (R33). -/
  q : List JobWord
  /-- CUR_JOB; `none` is the spec's "no value" (R34). -/
  curJob : Option JobWord
  /-- TX_BUF[0..TX_LEN-1]; a byte past its end holds no value (R31, R42). -/
  txBuf : List Byte
  /-- RX_BUF[0..RX_COUNT-1]; a byte past its end holds no value (R32, R42). -/
  rxBuf : List Byte
  /-- RX_LIMIT (R32). -/
  rxLimit : Nat
  /-- CRC_HI and CRC_LO (R30). -/
  crc : CrcAcc
  /-- LAST_POLL (R39). -/
  lastPoll : BitVec 32
  /-- LAST_SYNC (R39). -/
  lastSync : BitVec 32
  /-- The host's sampled inputs (R26), no state of the block. -/
  host : HostInputs
  /-- The agents' coming steps (R20; log 1), no state of the block. -/
  schedule : List Action
  /-- The reports the sink has taken, the oldest first (R27; log 5). -/
  reports : List Report
  /-- The frames the channel has taken, the oldest first (R29; log 5). -/
  sent : List (List Byte)
  /-- The answers to ENQUEUE, the oldest first (R22; log 5). -/
  responses : List EnqueueResponse
deriving DecidableEq, Repr

/-- The machine right after reset: every element of the block at the value of R44. The host's inputs are at the values that
log 4 names (DESIGN CHOICE), and nothing is scheduled or recorded. -/
def State.reset : State :=
  { seqState := .idle
    tickPending := false
    shutdownReq := false
    overflow := false
    q := []
    curJob := none
    txBuf := []
    rxBuf := []
    rxLimit := 0
    crc := { hi := 0xFF#8, lo := 0xFF#8 }
    lastPoll := 0#32
    lastSync := 0#32
    host :=
      { now := 0#32
        pollInterval := 0xFFFFFFFF#32
        syncInterval := 0xFFFFFFFF#32
        known := 0#31
        wallclock := { weekday := 1#8, hour := 0#8, minute := 0#8, second := 0#8 } }
    schedule := []
    reports := []
    sent := []
    responses := [] }

end Sys2Proof.Machine
end

