-- ==== Sys2Proof/Machine/Crc.lean ====
section
/-! DEFINITION. The CRC engine (40_crc.md). -/

namespace Sys2Proof.Machine

/-- The table ltH of R120. -/
def ltH : List Byte :=
  [0x00#8, 0x10#8, 0x20#8, 0x30#8, 0x40#8, 0x50#8, 0x60#8, 0x70#8,
   0x81#8, 0x91#8, 0xa1#8, 0xb1#8, 0xc1#8, 0xd1#8, 0xe1#8, 0xf1#8]

/-- The table ltL of R120. -/
def ltL : List Byte :=
  [0x00#8, 0x21#8, 0x42#8, 0x63#8, 0x84#8, 0xa5#8, 0xc6#8, 0xe7#8,
   0x08#8, 0x29#8, 0x4a#8, 0x6b#8, 0x8c#8, 0xad#8, 0xce#8, 0xef#8]

/-- RomHi (R120); every nibble is an index of the table. -/
def romHi (t : Nibble) : Byte := ltH.getD t.toNat 0#8

/-- RomLo (R120); every nibble is an index of the table. -/
def romLo (t : Nibble) : Byte := ltL.getD t.toNat 0#8

/-- The accumulators at the start of every computation (R121). -/
def crcInit : CrcAcc := { hi := 0xFF#8, lo := 0xFF#8 }

/-- Bits 7:4 of a byte. -/
def highNibble (b : Byte) : Nibble := b.extractLsb' 4 4

/-- Bits 3:0 of a byte. -/
def lowNibble (b : Byte) : Nibble := b.extractLsb' 0 4

/-- The concatenation of two nibbles, the first one in the high bits (00_scope.md R12). -/
def joinNibbles (hi lo : Nibble) : Byte := hi.setWidth 8 <<< 4 ||| lo.setWidth 8

/-- The concatenation of two bytes, the first one in the high bits (00_scope.md R12). -/
def joinBytes (hi lo : Byte) : HalfWord := hi.setWidth 16 <<< 8 ||| lo.setWidth 16

/-- NIB(n) (R122): both new accumulators read the old ones. -/
def nib (acc : CrcAcc) (n : Nibble) : CrcAcc :=
  let t := highNibble acc.hi ^^^ n
  { hi := joinNibbles (lowNibble acc.hi) (highNibble acc.lo) ^^^ romHi t
    lo := joinNibbles (lowNibble acc.lo) 0#4 ^^^ romLo t }

/-- One byte: the high nibble first, then the low nibble (R71, R123). -/
def crcByte (acc : CrcAcc) (b : Byte) : CrcAcc := nib (nib acc (highNibble b)) (lowNibble b)

/-- computeCRC (R123): the accumulators after the bytes, taken in wire order from the initial value. -/
def computeCRC (bytes : List Byte) : CrcAcc := bytes.foldl crcByte crcInit

/-- The two trailer bytes of a computation, the low byte first (R67). -/
def crcTrailer (acc : CrcAcc) : List Byte := [acc.lo, acc.hi]

/-- A body followed by its trailer. -/
def sealBody (body : List Byte) : List Byte := body ++ crcTrailer (computeCRC body)

/-- The bytes before the last two. -/
def crcBody (buf : List Byte) : List Byte := buf.take (buf.length - 2)

/-- appendCRC (R124): the last two bytes replaced by the CRC of the others; a buffer shorter than 2 is refused. -/
def appendCRC (buf : List Byte) : Option (List Byte) :=
  if buf.length < 2 then none else some (sealBody (crcBody buf))

/-- verifyCRC (R125): false for a buffer shorter than 3, else the last two bytes against the CRC of the others. -/
def verifyCRC (buf : List Byte) : Bool :=
  if buf.length < 3 then false
  else buf.drop (buf.length - 2) == crcTrailer (computeCRC (crcBody buf))

/-- The accumulators after verifyCRC: those of its computation, or the old ones when it makes none (R30, R125; log 10). -/
def crcAfterVerify (acc : CrcAcc) (buf : List Byte) : CrcAcc :=
  if buf.length < 3 then acc else computeCRC (crcBody buf)

end Sys2Proof.Machine
end

