-- ==== Sys2Proof/Machine/Dcb.lean ====
section
/-! DEFINITION. The DCB field parser and its model-indexed offset ROM (42_dcb_parser.md). The offsets and codes the spec
marks `gk` are its own values, unconfirmed by its source (log 13). -/

namespace Sys2Proof.Machine

/-- The three layouts (R175). -/
inductive Layout where
  | dt
  | prt
  | prthw
deriving DecidableEq, Repr

/-- Layout(model) (R175): models 5 to 255 decode as DT. -/
def layoutOf (model : Byte) : Layout :=
  if model = 2#8 ∨ model = 3#8 then .prt
  else if model = 4#8 then .prthw
  else .dt

/-- The rows of the offset ROM (R176). -/
inductive Field where
  | dcbLength | vendor | verFloor | modelID | temperatureFormat | switchDifferential | frostProtection
  | calibrationOffset | outputDelay | upDownKeyLimit | sensorSelection | optimumStart | rateOfChange
  | programMode | frostProtectTemp | setRoomTemp | floorMaxLimit | floorMaxLimitEnable | onOff | keyLock
  | runMode | holidayHours | tempHoldMinutes | remoteAirTemp | floorTemp | airTemp | heatingOn
  | hotWaterOn | weekday | hour | minute | second
deriving DecidableEq, Repr

/-- Offset(field, layout) (R176): the DCB index of a field, none when the layout lacks it. -/
def offset : Field → Layout → Option Nat
  | .dcbLength, _ => some 0
  | .vendor, _ => some 2
  | .verFloor, _ => some 3
  | .modelID, _ => some 4
  | .temperatureFormat, _ => some 5
  | .switchDifferential, _ => some 6
  | .frostProtection, _ => some 7
  | .calibrationOffset, _ => some 8
  | .outputDelay, _ => some 10
  | .upDownKeyLimit, _ => some 12
  | .sensorSelection, _ => some 13
  | .optimumStart, _ => some 14
  | .rateOfChange, _ => some 15
  | .programMode, _ => some 16
  | .frostProtectTemp, _ => some 17
  | .setRoomTemp, _ => some 18
  | .floorMaxLimit, _ => some 19
  | .floorMaxLimitEnable, _ => some 20
  | .onOff, _ => some 21
  | .keyLock, _ => some 22
  | .runMode, _ => some 23
  | .holidayHours, _ => some 24
  | .tempHoldMinutes, _ => some 26
  | .remoteAirTemp, _ => some 28
  | .floorTemp, _ => some 30
  | .airTemp, _ => some 32
  | .heatingOn, _ => some 35
  | .hotWaterOn, .prthw => some 36
  | .hotWaterOn, .dt => none
  | .hotWaterOn, .prt => none
  | .weekday, .prt => some 36
  | .weekday, .prthw => some 37
  | .weekday, .dt => none
  | .hour, .prt => some 37
  | .hour, .prthw => some 38
  | .hour, .dt => none
  | .minute, .prt => some 38
  | .minute, .prthw => some 39
  | .minute, .dt => none
  | .second, .prt => some 39
  | .second, .prthw => some 40
  | .second, .dt => none

/-- The rows of R176 in ROM order. -/
def romFields : List Field :=
  [.dcbLength, .vendor, .verFloor, .modelID, .temperatureFormat, .switchDifferential, .frostProtection,
   .calibrationOffset, .outputDelay, .upDownKeyLimit, .sensorSelection, .optimumStart, .rateOfChange,
   .programMode, .frostProtectTemp, .setRoomTemp, .floorMaxLimit, .floorMaxLimitEnable, .onOff, .keyLock,
   .runMode, .holidayHours, .tempHoldMinutes, .remoteAirTemp, .floorTemp, .airTemp, .heatingOn,
   .hotWaterOn, .weekday, .hour, .minute, .second]

/-- How many bytes a field reads: two for the U16 and TEMP16 kinds, else one (R177, R180, R184). -/
def fieldWidth : Field → Nat
  | .dcbLength => 2
  | .calibrationOffset => 2
  | .holidayHours => 2
  | .tempHoldMinutes => 2
  | .remoteAirTemp => 2
  | .floorTemp => 2
  | .airTemp => 2
  | _ => 1

/-- The reply-frame offset of DCB index 0 (20_memory.md R61). -/
def dcbBase : Nat := 9

/-- The highest frame index a field of the layout reads, 0 for a field it lacks. -/
def lastIndexOf (lay : Layout) (f : Field) : Nat :=
  match offset f lay with
  | some d => dcbBase + d + fieldWidth f - 1
  | none => 0

/-- MaxIndex(lay) (R178): the highest frame index any field of the layout reads. -/
def maxIndex (lay : Layout) : Nat := (romFields.map (lastIndexOf lay)).foldl max 0

/-- Where a parse fails (R160): the header, a frame index, or the whole-layout check. No report records it. -/
inductive Malformed where
  | header
  | index (i : Nat)
  | tail
deriving DecidableEq, Repr

/-- LIMIT (R170): the declared or the received length, whichever is smaller, less the trailer. -/
def parseLimit (frameLength received : Nat) : Nat := min frameLength received - 2

/-- InRange(i) (R170). -/
def inRange (frameLength received i : Nat) : Bool := decide (i < parseLimit frameLength received)

/-- ReadByte(i) (R170). -/
def readByte (raw : List Byte) (frameLength i : Nat) : Except Malformed Byte :=
  if inRange frameLength raw.length i then
    match raw[i]? with
    | some b => .ok b
    | none => .error (.index i)
  else .error (.index i)

/-- The frame index of a field, 9 + Offset(field, layout) (R177). -/
def frameIndex (lay : Layout) (f : Field) : Except Malformed Nat :=
  match offset f lay with
  | some d => .ok (dcbBase + d)
  | none => .error .tail

/-- BYTE (R177). -/
def readField (raw : List Byte) (frameLength : Nat) (lay : Layout) (f : Field) : Except Malformed Byte := do
  let i ← frameIndex lay f
  readByte raw frameLength i

/-- U16, big-endian (R68, R177). -/
def readPair (raw : List Byte) (frameLength : Nat) (lay : Layout) (f : Field) : Except Malformed HalfWord := do
  let i ← frameIndex lay f
  let hi ← readByte raw frameLength i
  let lo ← readByte raw frameLength (i + 1)
  return joinBytes hi lo

/-- TEMP16 of a raw pair (R180): the sentinel test comes before the division (90_conflicts.md C1). -/
def temp16 (raw16 : HalfWord) : Temp16 :=
  if raw16 = 0xFFFF#16 then .absent else .present (raw16.toNat / 10) raw16

/-- The boolean view of an on/off-like byte: true exactly when it is not zero (R183). -/
def switchOf (b : Byte) : Switch := { raw := b, isOn := b ≠ 0#8 }

/-- softwareVersion of VERFLOOR: bits 6:0 (R182). -/
def softwareVersionOf (b : Byte) : BitVec 7 := b.extractLsb' 0 7

/-- floorLimitState of VERFLOOR: bit 7 (R182). -/
def floorLimitStateOf (b : Byte) : BitVec 1 := b.extractLsb' 7 1

/-- ENUM_VENDOR (R181). -/
def vendorOf (b : Byte) : Coded Vendor :=
  { code := b, name := if b = 0#8 then .heatmiser else if b = 1#8 then .oem else .unknown }

/-- ENUM_MODEL (R181). -/
def modelOf (b : Byte) : Coded Model :=
  { code := b
    name :=
      if b = 0#8 then .dt else if b = 1#8 then .dtE else if b = 2#8 then .prt
      else if b = 3#8 then .prtE else if b = 4#8 then .prtHw else .unknown }

/-- ENUM_TFMT (R181). -/
def tempFormatOf (b : Byte) : Coded TempFormat :=
  { code := b, name := if b = 0#8 then .c else if b = 1#8 then .f else .unknown }

/-- ENUM_FROST (R181). -/
def frostOf (b : Byte) : Coded Frost :=
  { code := b, name := if b = 0#8 then .disabled else if b = 1#8 then .enabled else .unknown }

/-- ENUM_SENSOR (R181). -/
def sensorOf (b : Byte) : Coded Sensor :=
  { code := b
    name :=
      if b = 0#8 then .builtinAir else if b = 1#8 then .remoteAir else if b = 2#8 then .floor
      else if b = 3#8 then .builtinAirAndFloor else if b = 4#8 then .remoteAirAndFloor else .unknown }

/-- ENUM_PROG (R181). -/
def programModeOf (b : Byte) : Coded ProgramMode :=
  { code := b, name := if b = 0#8 then .fiveTwo else if b = 1#8 then .sevenDay else .unknown }

/-- ENUM_RUN (R181). -/
def runModeOf (b : Byte) : Coded RunMode :=
  { code := b, name := if b = 0#8 then .heating else if b = 1#8 then .frostProtection else .unknown }

/-- The clock echo of a PRT layout (R176 rows 29 to 32). -/
def readClock (raw : List Byte) (frameLength : Nat) (lay : Layout) : Except Malformed ClockEcho := do
  let weekday ← readField raw frameLength lay .weekday
  let hour ← readField raw frameLength lay .hour
  let minute ← readField raw frameLength lay .minute
  let second ← readField raw frameLength lay .second
  return { weekday, hour, minute, second }

/-- The tail of the layout (R175, R176 rows 28 to 32). -/
def readTail (raw : List Byte) (frameLength : Nat) (lay : Layout) : Except Malformed Tail :=
  match lay with
  | .dt => return .dt
  | .prt => do
    let clock ← readClock raw frameLength .prt
    return .prt clock
  | .prthw => do
    let hot ← readField raw frameLength .prthw .hotWaterOn
    let clock ← readClock raw frameLength .prthw
    return .prthw (switchOf hot) clock

/-- Every field of the layout in ROM order (R160, R176). -/
def readRecord (raw : List Byte) (frameLength : HalfWord) (address : Byte) (lay : Layout) :
    Except Malformed DeviceInfoRecord := do
  let byte := readField raw frameLength.toNat lay
  let pair := readPair raw frameLength.toNat lay
  let dcbLength ← pair .dcbLength
  let vendor ← byte .vendor
  let verFloor ← byte .verFloor
  let modelID ← byte .modelID
  let temperatureFormat ← byte .temperatureFormat
  let switchDifferential ← byte .switchDifferential
  let frostProtection ← byte .frostProtection
  let calibrationOffset ← pair .calibrationOffset
  let outputDelay ← byte .outputDelay
  let upDownKeyLimit ← byte .upDownKeyLimit
  let sensorSelection ← byte .sensorSelection
  let optimumStart ← byte .optimumStart
  let rateOfChange ← byte .rateOfChange
  let programMode ← byte .programMode
  let frostProtectTemp ← byte .frostProtectTemp
  let setRoomTemp ← byte .setRoomTemp
  let floorMaxLimit ← byte .floorMaxLimit
  let floorMaxLimitEnable ← byte .floorMaxLimitEnable
  let onOff ← byte .onOff
  let keyLock ← byte .keyLock
  let runMode ← byte .runMode
  let holidayHours ← pair .holidayHours
  let tempHoldMinutes ← pair .tempHoldMinutes
  let remoteAirTemp ← pair .remoteAirTemp
  let floorTemp ← pair .floorTemp
  let airTemp ← pair .airTemp
  let heatingOn ← byte .heatingOn
  let tail ← readTail raw frameLength.toNat lay
  return {
    frameLength := frameLength
    address := address
    dcbLength := dcbLength
    vendor := vendorOf vendor
    softwareVersion := softwareVersionOf verFloor
    floorLimitState := floorLimitStateOf verFloor
    modelID := modelOf modelID
    temperatureFormat := tempFormatOf temperatureFormat
    switchDifferential := switchDifferential
    frostProtection := frostOf frostProtection
    calibrationOffset := calibrationOffset
    outputDelay := outputDelay
    upDownKeyLimit := upDownKeyLimit
    sensorSelection := sensorOf sensorSelection
    optimumStart := optimumStart
    rateOfChange := rateOfChange
    programMode := programModeOf programMode
    frostProtectTemp := frostProtectTemp
    setRoomTemp := setRoomTemp
    floorMaxLimit := floorMaxLimit
    floorMaxLimitEnable := switchOf floorMaxLimitEnable
    onOff := switchOf onOff
    keyLock := switchOf keyLock
    runMode := runModeOf runMode
    holidayHours := holidayHours
    tempHoldMinutes := tempHoldMinutes
    remoteAirTemp := temp16 remoteAirTemp
    floorTemp := temp16 floorTemp
    airTemp := temp16 airTemp
    heatingOn := switchOf heatingOn
    tail := tail }

/-- The frame index of the model ID, 9 + 4 (R174). -/
def modelIndex : Nat := dcbBase + 4

/-- The declared frameLength, little-endian at reply offsets 1 and 2 (R69, R171). -/
def declaredLength (lenLo lenHi : Byte) : HalfWord := joinBytes lenHi lenLo

/-- parseStatusBlock (R160): the header needs six bytes received (R173), the model ID is read first (R174), and the whole
layout is checked before any field (R178). -/
def parseStatusBlock (raw : List Byte) : Except Malformed DeviceInfoRecord :=
  match raw with
  | _ :: lenLo :: lenHi :: address :: _ :: _ :: _ => do
    let frameLength := declaredLength lenLo lenHi
    let model ← readByte raw frameLength.toNat modelIndex
    let lay := layoutOf model
    if inRange frameLength.toNat raw.length (maxIndex lay) then readRecord raw frameLength address lay
    else .error .tail
  | _ => .error .header

end Sys2Proof.Machine
end

