-- ==== Sys2Proof/Config.lean ====
section
/-! DEFINITION. What an implementation fixes: the parameters of 00_scope.md R10 and its three fixed constants. -/

namespace Sys2Proof

/-- P_CLOCK_WRAP: the second-wrap rule of SYNC_CLOCK (R10, 43_dispatcher.md R213). -/
inductive ClockWrap where
  | quirk
  | mod60
deriving DecidableEq, Repr

/-- The parameters of R10: `maxReply` is P_MAX_REPLY, `queueDepth` P_QUEUE_DEPTH, `clockWrap` P_CLOCK_WRAP and `probeRetry`
P_PROBE_RETRY. Every operation that depends on one takes the configuration as an argument. -/
structure Config where
  maxReply : Nat
  queueDepth : Nat
  clockWrap : ClockWrap
  probeRetry : Bool
deriving DecidableEq, Repr

namespace Config

/-- ACK_LEN of R10. -/
def ackLen : Nat := 7

/-- MASTER_ADDRESS of R10. -/
def masterAddress : Byte := 0x81#8

/-- TX_MAX of R10. -/
def txMax : Nat := 14

/-- The size of RX_BUF, and the bound of RX_COUNT and RX_LIMIT (R11, R32): max(P_MAX_REPLY, ACK_LEN), written as what
exceeds ACK_LEN and ACK_LEN itself. -/
def rxCapacity (c : Config) : Nat := (c.maxReply - ackLen) + ackLen

/-- How far P_MAX_REPLY lies above 3, its least value. R10 leaves it OPEN, so nothing is known of it (log 3). -/
opaque freeReplySize : Nat

/-- How far P_QUEUE_DEPTH lies above 1, its least value. R10 leaves it OPEN, so nothing is known of it (log 3). -/
opaque freeQueueDepth : Nat

/-- Is P_CLOCK_WRAP MOD60? The spec takes QUIRK but lets a block take either (R10, 93_implementation_defined.md U1), so
nothing is known of it (log 3). -/
opaque freeClockWrap : Bool

/-- P_PROBE_RETRY. The spec takes false but lets a block take either (R10, U4), so nothing is known of it (log 3). -/
opaque freeProbeRetry : Bool

/-- The configuration of the block (10_state.md R40): any one that R10 calls legal. -/
def ofBlock : Config :=
  { maxReply := freeReplySize + 3
    queueDepth := freeQueueDepth + 1
    clockWrap := if freeClockWrap then .mod60 else .quirk
    probeRetry := freeProbeRetry }

end Config

end Sys2Proof
end

