-- ==== Sys2Proof/WellFormed.lean ====
section
/-! DEFINITION. The checks on data that a type does not make: job words (30_encoding.md R101, R108), request frames (R90
to R93) and parameters (00_scope.md R10). An `Instr` needs no check of its own: each operand's type has exactly the
values its field admits. -/

namespace Sys2Proof

/-- A row of R101: a word selects it when `(w AND mask) = pattern`. -/
structure JobRow where
  kind : JobKind
  pattern : JobWord
  mask : JobWord
deriving DecidableEq, Repr

/-- The rows of R101. -/
def jobRows : List JobRow :=
  [ { kind := .poll, pattern := 0x00000000#32, mask := 0xFFFF00FF#32 },
    { kind := .syncClock, pattern := 0x00000001#32, mask := 0xFFFF00FF#32 },
    { kind := .setTemp, pattern := 0x00000002#32, mask := 0xFF0000F7#32 },
    { kind := .setHotWater, pattern := 0x00000003#32, mask := 0xFFFE00FF#32 },
    { kind := .probe, pattern := 0x00000004#32, mask := 0xFFFF00FF#32 } ]

/-- Does the word select the row (R101)? -/
def JobRow.selectedBy (r : JobRow) (w : JobWord) : Bool := w &&& r.mask == r.pattern

/-- The rows a word selects. -/
def selectedRows (w : JobWord) : List JobRow := jobRows.filter (·.selectedBy w)

/-- R108: a job word is well-formed when it selects exactly one row. -/
def wellFormedWord (w : JobWord) : Bool := (selectedRows w).length == 1

/-- Every parameter in the range R10 gives it. -/
def Config.legal (c : Config) : Bool := decide (3 ≤ c.maxReply) && decide (1 ≤ c.queueDepth)

/-- FUNC of a request frame (R91). -/
inductive FrameFunc where
  | read
  | write
deriving DecidableEq, Repr

/-- The fields of a request frame that its length, source address and CRC do not fix (R90). -/
structure RequestFrame where
  dest : Byte
  func : FrameFunc
  start : HalfWord
  endField : HalfWord
  payload : List Byte
deriving DecidableEq, Repr

/-- The block addresses thermostats 1 to 31 and the broadcast address 0xFF, and no other (R64). -/
def busAddress (a : Byte) : Bool := decide (1 ≤ a.toNat ∧ a.toNat ≤ 31) || a == 0xFF#8

/-- The request frames the block builds: a read of registers 0 to 0xFFFF without payload, and writes of register 18 or 42
with one byte and of register 43 with four, the END field holding the payload's length (R63, R92, R93, R143). -/
def RequestFrame.wellFormed (f : RequestFrame) : Bool :=
  busAddress f.dest &&
    match f.func with
    | .read => f.start == 0x0000#16 && f.endField == 0xFFFF#16 && f.payload.length == 0
    | .write =>
      ((f.start == 18#16 || f.start == 42#16) && f.endField == 1#16 && f.payload.length == 1) ||
        (f.start == 43#16 && f.endField == 4#16 && f.payload.length == 4)

end Sys2Proof
end

