-- ==== Sys2Proof/Machine/Frame.lean ====
section
/-! DEFINITION. The frame encoder and decoder (41_frame_codec.md, 30_encoding.md R90 to R97). -/

namespace Sys2Proof.Machine

/-- Bits 7:0 of a 16-bit field. -/
def lowByte (v : HalfWord) : Byte := v.extractLsb' 0 8

/-- Bits 15:8 of a 16-bit field. -/
def highByte (v : HalfWord) : Byte := v.extractLsb' 8 8

/-- FUNC of a request: WRITE when a payload is present, else READ (R141). -/
def funcByte (payload : Option (List Byte)) : Byte :=
  match payload with
  | none => 0x00#8
  | some _ => 0x01#8

/-- The bytes of a payload, none when it is absent. -/
def payloadBytes (payload : Option (List Byte)) : List Byte := payload.getD []

/-- Bytes 0 to L-3 of the request frame that buildFrame makes (R140): the header in the order of R90, its 16-bit fields
low byte first (R66), then the payload. -/
def requestBody (dest : Byte) (start endOrLength : HalfWord) (payload : Option (List Byte)) : List Byte :=
  [dest, BitVec.ofNat 8 (10 + (payloadBytes payload).length), Config.masterAddress, funcByte payload,
   lowByte start, highByte start, lowByte endOrLength, highByte endOrLength] ++ payloadBytes payload

/-- buildFrame (R140): the body with its CRC trailer. -/
def buildFrame (dest : Byte) (start endOrLength : HalfWord) (payload : Option (List Byte)) : List Byte :=
  sealBody (requestBody dest start endOrLength payload)

/-- The payload argument of buildFrame for a frame's fields: a read passes none, a write its bytes (R141). -/
def payloadOf (f : RequestFrame) : Option (List Byte) :=
  match f.func with
  | .read => none
  | .write => some f.payload

/-- The bytes of a request frame (format F-REQ, R90). -/
def encodeRequest (f : RequestFrame) : List Byte := buildFrame f.dest f.start f.endField (payloadOf f)

/-- FUNC as a frame function (R91). -/
def frameFuncOf (b : Byte) : Option FrameFunc :=
  if b = 0x00#8 then some .read
  else if b = 0x01#8 then some .write
  else none

/-- The fields of a request frame, read back from its bytes (format F-REQ, R90): none unless the frame has its ten header and
trailer bytes, byte 1 is its length, byte 2 the master's address, FUNC known and the CRC valid. -/
def decodeRequest (frame : List Byte) : Option RequestFrame :=
  match frame with
  | dest :: len :: src :: func :: startLo :: startHi :: endLo :: endHi :: rest =>
    if 10 ≤ frame.length ∧ len.toNat = frame.length ∧ src = Config.masterAddress ∧ verifyCRC frame = true then
      (frameFuncOf func).map fun f =>
        { dest := dest
          func := f
          start := joinBytes startHi startLo
          endField := joinBytes endHi endLo
          payload := crcBody rest }
    else none
  | _ => none

/-- The four results of decodeReply (R146). -/
inductive ReplyCheck where
  | emptyNone
  | emptyShort
  | badCrc
  | valid
deriving DecidableEq, Repr

/-- decodeReply (R146): the length before the CRC. -/
def decodeReply (raw : List Byte) : ReplyCheck :=
  if raw.length = 0 then .emptyNone
  else if raw.length < 3 then .emptyShort
  else if verifyCRC raw then .valid
  else .badCrc

/-- checkAck (R148): the length before the CRC. -/
def checkAck (raw : List Byte) : JobResult :=
  if raw.length = 0 then .noReply .timeout
  else if raw.length < Config.ackLen then .shortReply
  else if verifyCRC raw then .ok none
  else .noReply .checksum

end Sys2Proof.Machine
end

