-- ==== Sys2Proof/Machine/Ops.lean ====
section
/-! DEFINITION. The named operations over the state: one update per field, the reads of the buffers (00_scope.md R15), the
FIFO (R16), the report sink, and how a job ends (60_exceptions.md R275). -/

namespace Sys2Proof.Machine

/-- SEQ_STATE <- v (R14). -/
def State.withSeq (s : State) (v : SeqState) : State := { s with seqState := v }

/-- TICK_PENDING <- v. -/
def State.withTick (s : State) (v : Bool) : State := { s with tickPending := v }

/-- SHUTDOWN_REQ <- v. -/
def State.withShutdown (s : State) (v : Bool) : State := { s with shutdownReq := v }

/-- OVERFLOW <- v. -/
def State.withOverflow (s : State) (v : Bool) : State := { s with overflow := v }

/-- Q <- v. -/
def State.withQueue (s : State) (v : List JobWord) : State := { s with q := v }

/-- CUR_JOB <- v. -/
def State.withCurJob (s : State) (v : Option JobWord) : State := { s with curJob := v }

/-- TX_BUF and TX_LEN <- v and its length. -/
def State.withTx (s : State) (v : List Byte) : State := { s with txBuf := v }

/-- RX_BUF and RX_COUNT <- v and its length. -/
def State.withRx (s : State) (v : List Byte) : State := { s with rxBuf := v }

/-- RX_LIMIT <- v. -/
def State.withRxLimit (s : State) (v : Nat) : State := { s with rxLimit := v }

/-- CRC_HI and CRC_LO <- v. -/
def State.withCrc (s : State) (v : CrcAcc) : State := { s with crc := v }

/-- LAST_POLL <- v. -/
def State.withLastPoll (s : State) (v : BitVec 32) : State := { s with lastPoll := v }

/-- LAST_SYNC <- v. -/
def State.withLastSync (s : State) (v : BitVec 32) : State := { s with lastSync := v }

/-- The host drives its sampled inputs to v (R26). -/
def State.withHost (s : State) (v : HostInputs) : State := { s with host := v }

/-- The agents' coming steps are v. -/
def State.withSchedule (s : State) (v : List Action) : State := { s with schedule := v }

/-- Report(r) (R16, R27): the sink takes the report in the same step, after every earlier one (R80). -/
def State.addReport (s : State) (r : Report) : State := { s with reports := s.reports ++ [r] }

/-- BusSend(frame) (R16, R29): the channel takes the whole frame in the same step. -/
def State.addSent (s : State) (frame : List Byte) : State := { s with sent := s.sent ++ [frame] }

/-- The answer to an ENQUEUE (R22). -/
def State.addResponse (s : State) (r : EnqueueResponse) : State := { s with responses := s.responses ++ [r] }

/-- Q_COUNT (R33). -/
def State.qCount (s : State) : Nat := s.q.length

/-- TX_LEN (R31). -/
def State.txLen (s : State) : Nat := s.txBuf.length

/-- RX_COUNT (R32). -/
def State.rxCount (s : State) : Nat := s.rxBuf.length

/-- TX_BUF[i], none where it holds no value (R42). -/
def State.txRead (s : State) (i : Nat) : Option Byte := s.txBuf[i]?

/-- RxRead(i), none where RX_BUF[i] holds no value (R15, R42). -/
def State.rxRead (s : State) (i : Nat) : Option Byte := s.rxBuf[i]?

/-- Is there a free entry in the FIFO (R22, R234)? -/
def State.hasRoom (s : State) (cfg : Config) : Bool := decide (s.qCount < cfg.queueDepth)

/-- The word at the FIFO's tail. -/
def State.pushJob (s : State) (w : JobWord) : State := s.withQueue (s.q ++ [w])

/-- The report of a job lost to a full FIFO (R234). -/
def overflowReport (w : JobWord) : Report :=
  { job := w, outcome := .queueOverflow, cause := 0, requeued := false, present := false, record := none }

/-- Enqueue(job) of R234: at the tail, or lost with OVERFLOW and a report. -/
def State.enqueue (s : State) (cfg : Config) (w : JobWord) : State :=
  if s.hasRoom cfg then s.pushJob w else (s.withOverflow true).addReport (overflowReport w)

/-- The CAUSE code (30_encoding.md R105). -/
def Cause.code : Cause → Nat
  | .timeout => 0
  | .empty => 1
  | .checksum => 2

/-- The OUTCOME code (R105). -/
def OutcomeCode.code : OutcomeCode → Nat
  | .ok => 0
  | .noReply => 1
  | .shortReply => 2
  | .malformedBlock => 3
  | .outOfRange => 4
  | .configuration => 5
  | .queueOverflow => 6

/-- The response code (R104). -/
def EnqueueResponse.code : EnqueueResponse → Nat
  | .accepted => 0
  | .rejectIllegal => 1
  | .rejectFull => 2

/-- OUTCOME of a result (R105). -/
def JobResult.outcome : JobResult → OutcomeCode
  | .ok _ => .ok
  | .noReply _ => .noReply
  | .shortReply => .shortReply
  | .malformedBlock => .malformedBlock
  | .outOfRange => .outOfRange
  | .configuration => .configuration

/-- CAUSE of a result: 0 for every outcome but NO_REPLY (R105). -/
def JobResult.causeCode : JobResult → Nat
  | .noReply c => c.code
  | .ok _ => 0
  | .shortReply => 0
  | .malformedBlock => 0
  | .outOfRange => 0
  | .configuration => 0

/-- RECORD of a result (R252). -/
def JobResult.record : JobResult → Option DeviceInfoRecord
  | .ok r => r
  | .noReply _ => none
  | .shortReply => none
  | .malformedBlock => none
  | .outOfRange => none
  | .configuration => none

/-- Retry(kind, outcome) (44_sequencer.md R251). -/
def retry (cfg : Config) (k : JobKind) : JobResult → Bool
  | .ok _ => false
  | .noReply _ => if k = .probe then cfg.probeRetry else true
  | .shortReply => true
  | .malformedBlock => true
  | .outOfRange => false
  | .configuration => false

/-- PRESENT (R106, R252): a PROBE that a CRC-valid reply answered. -/
def presentBit (k : JobKind) (r : JobResult) : Bool :=
  decide (k = .probe) && (decide (r.outcome = .ok) || decide (r.outcome = .malformedBlock))

/-- Does a job with this result go back to the FIFO's tail (R244)? -/
def State.requeues (s : State) (cfg : Config) (k : JobKind) (r : JobResult) : Bool := retry cfg k r && s.hasRoom cfg

/-- The outcome report of a job (R106, R252). -/
def jobReport (k : JobKind) (w : JobWord) (r : JobResult) (requeued : Bool) : Report :=
  { job := w
    outcome := r.outcome
    cause := r.causeCode
    requeued := requeued
    present := presentBit k r
    record := r.record }

/-- Re-enqueue or drop (R244, R251). -/
def State.retryJob (s : State) (cfg : Config) (k : JobKind) (w : JobWord) (r : JobResult) : State :=
  if retry cfg k r then s.enqueue cfg w else s

/-- The block's analogue of taking an exception (60_exceptions.md R275), which every job ends with, in EXEC (R237) or in
EVAL (R244): the report, the re-enqueue or drop after it, CUR_JOB without a value, and SWEEP. It saves nothing else and
changes no mode; there is no handler address. -/
def State.endJob (s : State) (cfg : Config) (k : JobKind) (w : JobWord) (r : JobResult) : State :=
  (((s.addReport (jobReport k w r (s.requeues cfg k r))).retryJob cfg k w r).withCurJob none).withSeq .sweep

/-- The analogue of the return from one (R277): after the SWEEP step the sequencer is in IDLE, as after an OK. -/
def State.backToIdle (s : State) : State := s.withSeq .idle

end Sys2Proof.Machine
end

