-- ==== Sys2Proof/Machine/Operands.lean ====
section
/-! DEFINITION. The operand forms of the job kinds and their checks (43_dispatcher.md). -/

namespace Sys2Proof.Machine

/-- ADDR in 1..31 (R201). -/
def deviceAddress (a : Byte) : Bool := decide (1 ≤ a.toNat) && decide (a.toNat ≤ 31)

/-- ADDR of a PROBE: 1..31 or 0xFF (R201). -/
def probeAddress (a : Byte) : Bool := deviceAddress a || decide (a = 0xFF#8)

/-- InTempRange(TEMP, UNIT) (R217). -/
def inTempRange (temp : Byte) : TempUnit → Bool
  | .celsius => decide (5 ≤ temp.toNat) && decide (temp.toNat ≤ 35)
  | .fahrenheit => decide (41 ≤ temp.toNat) && decide (temp.toNat ≤ 95)

/-- What AdjustSecond subtracts on a wrap (R213): 59 under QUIRK, 60 under MOD60. -/
def wrapAmount : ClockWrap → Nat
  | .quirk => 59
  | .mod60 => 60

/-- AdjustSecond(s) (R213), on integers: no 8-bit wrap comes before the comparison. -/
def adjustSecond (wrap : ClockWrap) (s : Byte) : Byte :=
  let t := s.toNat + 2
  BitVec.ofNat 8 (if t > 59 then t - wrapAmount wrap else t)

/-- The payload of SYNC_CLOCK (R212): weekday, hour and minute unchanged (R214), the second adjusted. -/
def clockPayload (wrap : ClockWrap) (c : WallClock) : List Byte :=
  [c.weekday, c.hour, c.minute, adjustSecond wrap c.second]

/-- The payload of SET_TEMP: TEMP in the job's own unit (R216, R218). -/
def tempPayload (temp : Byte) : List Byte := [temp]

/-- The payload of SET_HOT_WATER (R219). -/
def hotWaterPayload (turnOn : Bool) : List Byte := [if turnOn then 0x01#8 else 0x00#8]

/-- KNOWN[a] for an address a in 1..31 (R26, R249). -/
def isKnown (known : BitVec 31) (a : Nat) : Bool := known.getLsbD (a - 1)

/-- The addresses of a sweep, ascending (R247). -/
def sweepAddresses : List Nat := List.range' 1 31

/-- The known addresses in ascending order (R247, R249, 30_encoding.md R111). -/
def knownAddresses (known : BitVec 31) : List Byte :=
  (sweepAddresses.filter (isKnown known)).map (BitVec.ofNat 8)

end Sys2Proof.Machine
end

