-- ==== Sys2Proof/Machine/Dispatcher.lean ====
section
/-! DEFINITION. What the job kinds share: preparing a request in EXEC, judging the reply in EVAL, and running the half that
SEQ_STATE names (43_dispatcher.md R200 to R204, R222; 44_sequencer.md R236, R237, R244). -/

namespace Sys2Proof.Machine

/-- The two evaluation classes (R200). -/
inductive EvalClass where
  | status
  | ack
deriving DecidableEq, Repr

/-- The class of a kind (R200). -/
def evalClass : JobKind → EvalClass
  | .poll => .status
  | .probe => .status
  | .syncClock => .ack
  | .setTemp => .ack
  | .setHotWater => .ack

/-- RX_LIMIT of a class (R200): P_MAX_REPLY or ACK_LEN. -/
def limitOf (cfg : Config) : EvalClass → Nat
  | .status => cfg.maxReply
  | .ack => Config.ackLen

/-- evalStatus (R204). -/
def evalStatus (raw : List Byte) : JobResult :=
  match decodeReply raw with
  | .emptyNone => .noReply .timeout
  | .emptyShort => .noReply .empty
  | .badCrc => .noReply .checksum
  | .valid =>
    match parseStatusBlock raw with
    | .ok r => .ok (some r)
    | .error _ => .malformedBlock

/-- The judgement of a class on the reply (R204, R222). -/
def judge : EvalClass → List Byte → JobResult
  | .status, raw => evalStatus raw
  | .ack, raw => checkAck raw

/-- The shortest reply whose CRC a class computes: three bytes (R146) or seven (R148). -/
def crcThreshold : EvalClass → Nat
  | .status => 3
  | .ack => Config.ackLen

/-- The accumulators after a judgement: those of verifyCRC where the class reaches it (R30, R146, R148; log 10). -/
def crcAfterJudge (c : EvalClass) (acc : CrcAcc) (raw : List Byte) : CrcAcc :=
  if raw.length < crcThreshold c then acc else crcAfterVerify acc raw

/-- A request that EXEC hands to SEND: the frame in TX_BUF, its CRC in the accumulators, and RX_LIMIT (R140, R200). -/
def State.loadRequest (s : State) (cfg : Config) (c : EvalClass) (dest : Byte)
    (start endOrLength : HalfWord) (payload : Option (List Byte)) : State :=
  ((s.withTx (buildFrame dest start endOrLength payload)).withCrc
      (computeCRC (requestBody dest start endOrLength payload))).withRxLimit (limitOf cfg c)

/-- The READ frame of POLL and PROBE: registers 0 to 0xFFFF (R205, R208, R220). -/
def State.loadRead (s : State) (cfg : Config) (dest : Byte) : State :=
  s.loadRequest cfg .status dest 0x0000#16 0xFFFF#16 none

/-- A WRITE frame: the END field holds the payload's length (R221). -/
def State.loadWrite (s : State) (cfg : Config) (dest : Byte) (register : HalfWord) (payload : List Byte) : State :=
  s.loadRequest cfg .ack dest register (BitVec.ofNat 16 payload.length) (some payload)

/-- What prepare answers (R200): an early outcome without bus traffic, or a built frame. -/
inductive Prepared where
  | early (r : JobResult)
  | frame (s : State)
deriving DecidableEq, Repr

/-- The EXEC half (R236): the early outcome ends the job (R237), a frame goes to SEND. -/
def State.execHalf (s : State) (cfg : Config) (k : JobKind) (w : JobWord) : Prepared → State
  | .early r => s.endJob cfg k w r
  | .frame s' => s'.withSeq .send

/-- The EVAL half (R244): the reply RX_BUF[0..RX_COUNT-1] is judged and the job ends. -/
def State.evalHalf (s : State) (cfg : Config) (k : JobKind) (w : JobWord) : State :=
  (s.withCrc (crcAfterJudge (evalClass k) s.crc s.rxBuf)).endJob cfg k w (judge (evalClass k) s.rxBuf)

/-- The half of a job that SEQ_STATE names, for the word in CUR_JOB (R34, R230). In the other states no step of the block
runs a job (log 9), and CUR_JOB without a value is never read (R42). -/
def runJob (cfg : Config) (k : JobKind) (prepare : Config → State → Prepared) (s : State) :
    Host.Outcome State Fault Refusal :=
  match s.seqState, s.curJob with
  | .exec, some w => .next (s.execHalf cfg k w (prepare cfg s))
  | .eval, some w => .next (s.evalHalf cfg k w)
  | .exec, none => .fault .curJobNoValue
  | .eval, none => .fault .curJobNoValue
  | .idle, _ => .fault .noHalfInThisState
  | .send, _ => .fault .noHalfInThisState
  | .receive, _ => .fault .noHalfInThisState
  | .sweep, _ => .fault .noHalfInThisState
  | .stopped, _ => .fault .noHalfInThisState

/-- The SEND step (R240): any earlier reply is discarded and the whole of TX_BUF goes to the channel. -/
def State.sendFrame (s : State) : State := ((s.withRx []).addSent s.txBuf).withSeq .receive

/-- A frame function runs in SEND and nowhere else (R230, R240; log 8). -/
def runFrame (s : State) : Host.Outcome State Fault Refusal :=
  match s.seqState with
  | .send => .next s.sendFrame
  | .idle => .fault .noHalfInThisState
  | .exec => .fault .noHalfInThisState
  | .receive => .fault .noHalfInThisState
  | .eval => .fault .noHalfInThisState
  | .sweep => .fault .noHalfInThisState
  | .stopped => .fault .noHalfInThisState

end Sys2Proof.Machine
end

