-- ==== Sys2Proof/Machine/FrameFunctions.lean ====
section
/-! DEFINITION. The frame functions READ and WRITE (43_dispatcher.md R220, R221), which the SEND step runs. What differs
between them is the thermostat's answer, a status reply or an acknowledgement, which is the channel's (R29). -/

namespace Sys2Proof.Machine

/-- READ: the request frame in TX_BUF goes to the bus (R220, R240). -/
def execRead (s : State) : Host.Outcome State Fault Refusal := runFrame s

/-- WRITE: the request frame in TX_BUF goes to the bus (R221, R240). -/
def execWrite (s : State) : Host.Outcome State Fault Refusal := runFrame s

end Sys2Proof.Machine
end

