-- ==== Sys2Proof/Machine/StatusReads.lean ====
section
/-! DEFINITION. The status reads POLL and PROBE (43_dispatcher.md R205, R208). -/

namespace Sys2Proof.Machine

/-- The EXEC half of POLL (R205). -/
def preparePoll (addr : Byte) (cfg : Config) (s : State) : Prepared :=
  if deviceAddress addr then .frame (s.loadRead cfg addr) else .early .configuration

/-- POLL (R205, R206). -/
def execPoll (addr : Byte) (s : State) : Host.Outcome State Fault Refusal :=
  runJob Config.ofBlock .poll (preparePoll addr) s

/-- The EXEC half of PROBE (R208): the broadcast address is legal too. -/
def prepareProbe (addr : Byte) (cfg : Config) (s : State) : Prepared :=
  if probeAddress addr then .frame (s.loadRead cfg addr) else .early .configuration

/-- PROBE (R208, R209). -/
def execProbe (addr : Byte) (s : State) : Host.Outcome State Fault Refusal :=
  runJob Config.ofBlock .probe (prepareProbe addr) s

end Sys2Proof.Machine
end

