-- ==== Sys2Proof/Machine/Writes.lean ====
section
/-! DEFINITION. The writes SYNC_CLOCK, SET_TEMP and SET_HOT_WATER (43_dispatcher.md R212, R216, R219). -/

namespace Sys2Proof.Machine

/-- The EXEC half of SYNC_CLOCK (R212): WALLCLOCK is sampled here. -/
def prepareSyncClock (addr : Byte) (cfg : Config) (s : State) : Prepared :=
  if deviceAddress addr then .frame (s.loadWrite cfg addr 43#16 (clockPayload cfg.clockWrap s.host.wallclock))
  else .early .configuration

/-- SYNC_CLOCK (R212). -/
def execSyncClock (addr : Byte) (s : State) : Host.Outcome State Fault Refusal :=
  runJob Config.ofBlock .syncClock (prepareSyncClock addr) s

/-- The EXEC half of SET_TEMP (R216): the address is checked before the range (R202). -/
def prepareSetTemp (addr temp : Byte) (unit : TempUnit) (cfg : Config) (s : State) : Prepared :=
  if deviceAddress addr then
    if inTempRange temp unit then .frame (s.loadWrite cfg addr 18#16 (tempPayload temp)) else .early .outOfRange
  else .early .configuration

/-- SET_TEMP (R216). -/
def execSetTemp (addr temp : Byte) (unit : TempUnit) (s : State) : Host.Outcome State Fault Refusal :=
  runJob Config.ofBlock .setTemp (prepareSetTemp addr temp unit) s

/-- The EXEC half of SET_HOT_WATER (R219). -/
def prepareSetHotWater (addr : Byte) (turnOn : Bool) (cfg : Config) (s : State) : Prepared :=
  if deviceAddress addr then .frame (s.loadWrite cfg addr 42#16 (hotWaterPayload turnOn)) else .early .configuration

/-- SET_HOT_WATER (R219). -/
def execSetHotWater (addr : Byte) (turnOn : Bool) (s : State) : Host.Outcome State Fault Refusal :=
  runJob Config.ofBlock .setHotWater (prepareSetHotWater addr turnOn) s

end Sys2Proof.Machine
end

