-- ==== Sys2Proof/Machine/Dispatch.lean ====
section
/-! DEFINITION. The meaning of every instruction, one arm per constructor. -/

namespace Sys2Proof.Machine

/-- What an instruction does to the state. -/
def exec (i : Instr) (s : State) : Host.Outcome State Fault Refusal :=
  match i with
  | .poll addr => Sys2Proof.Machine.execPoll addr s
  | .syncClock addr => Sys2Proof.Machine.execSyncClock addr s
  | .setTemp addr temp unit => Sys2Proof.Machine.execSetTemp addr temp unit s
  | .setHotWater addr turnOn => Sys2Proof.Machine.execSetHotWater addr turnOn s
  | .probe addr => Sys2Proof.Machine.execProbe addr s
  | .read => Sys2Proof.Machine.execRead s
  | .write => Sys2Proof.Machine.execWrite s

end Sys2Proof.Machine
end

