-- ==== Sys2Proof/Decode.lean ====
section
/-! DEFINITION. Decoding and encoding of job words (30_encoding.md R100 to R102, R109) and of the FUNC byte of a request
frame (R91). -/

namespace Sys2Proof

/-- KIND, bits 2:0 (R100). -/
def kindField (w : JobWord) : BitVec 3 := w.extractLsb' 0 3

/-- UNIT, bit 3 (R100). -/
def unitField (w : JobWord) : BitVec 1 := w.extractLsb' 3 1

/-- RSV0, bits 7:4 (R100). -/
def reservedLowField (w : JobWord) : BitVec 4 := w.extractLsb' 4 4

/-- ADDR, bits 15:8 (R100, R102). -/
def addrField (w : JobWord) : Byte := w.extractLsb' 8 8

/-- ARG, bits 23:16 (R100); the whole of it is TEMP in a SET_TEMP job (R102). -/
def argField (w : JobWord) : Byte := w.extractLsb' 16 8

/-- ON, bit 16 (R102). -/
def onField (w : JobWord) : Bool := w.getLsbD 16

/-- RSV1, bits 31:24 (R100). -/
def reservedHighField (w : JobWord) : Byte := w.extractLsb' 24 8

/-- UNIT as a unit of temperature: 0 = C, 1 = F (R100). -/
def unitOfBit (b : BitVec 1) : TempUnit := if b = 1#1 then .fahrenheit else .celsius

/-- The bit of a unit of temperature (R100). -/
def bitOfUnit : TempUnit → BitVec 1
  | .celsius => 0#1
  | .fahrenheit => 1#1

/-- The name of what is wrong with an illegal job word (R109): the KIND first, then the reserved fields. -/
def illegalReason (w : JobWord) : DecodeError :=
  if 5 ≤ (kindField w).toNat then .reservedKind
  else if reservedLowField w ≠ 0#4 then .reservedLow
  else if reservedHighField w ≠ 0#8 then .reservedHigh
  else if unitField w ≠ 0#1 ∧ kindField w ≠ 2#3 then .unitOutsideSetTemp
  else .reservedArgument

/-- The job a word stands for, by the match and mask of its row (R101); an illegal word is refused by name (R109). -/
def decodeJob (w : JobWord) : Except DecodeError Instr :=
  if w &&& 0xFFFF00FF#32 = 0x00000000#32 then .ok (.poll (addrField w))
  else if w &&& 0xFFFF00FF#32 = 0x00000001#32 then .ok (.syncClock (addrField w))
  else if w &&& 0xFF0000F7#32 = 0x00000002#32 then
    .ok (.setTemp (addrField w) (argField w) (unitOfBit (unitField w)))
  else if w &&& 0xFFFE00FF#32 = 0x00000003#32 then .ok (.setHotWater (addrField w) (onField w))
  else if w &&& 0xFFFF00FF#32 = 0x00000004#32 then .ok (.probe (addrField w))
  else .error (illegalReason w)

/-- The frame function a FUNC byte stands for; 0x02 to 0xFF have none (R91). -/
def decodeFunc (b : Byte) : Except DecodeError Instr :=
  if b = 0x00#8 then .ok .read
  else if b = 0x01#8 then .ok .write
  else .error .reservedFunction

/-- The instruction a code stands for, or the name of why it is none. -/
def decode : Code → Except DecodeError Instr
  | .job w => decodeJob w
  | .func b => decodeFunc b

/-- A job word from its fields, the reserved ones 0 (R100). -/
def jobWord (kind : BitVec 3) (unit : BitVec 1) (addr arg : Byte) : JobWord :=
  arg.setWidth 32 <<< 16 ||| addr.setWidth 32 <<< 8 ||| unit.setWidth 32 <<< 3 ||| kind.setWidth 32

/-- ARG of a SET_HOT_WATER job: ON in bit 0, the other bits 0 (R100). -/
def onArgument (turnOn : Bool) : Byte := if turnOn then 0x01#8 else 0x00#8

/-- The code of an instruction (R100, R101, R91). -/
def encode : Instr → Code
  | .poll a => .job (jobWord 0#3 0#1 a 0#8)
  | .syncClock a => .job (jobWord 1#3 0#1 a 0#8)
  | .setTemp a t u => .job (jobWord 2#3 (bitOfUnit u) a t)
  | .setHotWater a on => .job (jobWord 3#3 0#1 a (onArgument on))
  | .probe a => .job (jobWord 4#3 0#1 a 0#8)
  | .read => .func 0x00#8
  | .write => .func 0x01#8

/-- The POLL word of an address, 0x00000a00 (44_sequencer.md R247). -/
def pollWord (a : Byte) : JobWord := jobWord 0#3 0#1 a 0#8

/-- The SYNC_CLOCK word of an address, 0x00000a01 (44_sequencer.md R248). -/
def syncWord (a : Byte) : JobWord := jobWord 1#3 0#1 a 0#8

/-- The instruction or nothing. -/
def decoded (c : Code) : Option Instr :=
  match decode c with
  | .ok i => some i
  | .error _ => none

/-- What the decoder reads from a row of spec/opcode_table.json: a row of 32 bits is a job word, a row of 8 bits the FUNC
byte of a request frame. -/
def decodeTableWord (nbits w : Nat) : Option Instr :=
  if nbits = 32 then decoded (.job (BitVec.ofNat 32 w))
  else if nbits = 8 then decoded (.func (BitVec.ofNat 8 w))
  else none

end Sys2Proof
end

