-- ==== Sys2Proof/Machine/Flags.lean ====
section
/-! DEFINITION. The flags TICK_PENDING, SHUTDOWN_REQ and OVERFLOW (10_state.md R43) and the STATUS register (R28). -/

namespace Sys2Proof.Machine

/-- TICK (R23, R231): latched, and merged with one already pending; ignored in STOPPED. -/
def State.tick (s : State) : State := if s.seqState = .stopped then s else s.withTick true

/-- SHUTDOWN (R24). -/
def State.shutdown (s : State) : State := s.withShutdown true

/-- STATUS (R28, 60_exceptions.md R282), read without side effect. -/
structure Status where
  busy : Bool
  tickPending : Bool
  overflow : Bool
  stopped : Bool
  qCount : Nat
deriving DecidableEq, Repr

/-- BUSY of R28. -/
def SeqState.busy : SeqState → Bool
  | .idle => false
  | .stopped => false
  | .exec => true
  | .send => true
  | .receive => true
  | .eval => true
  | .sweep => true

/-- What the host reads as STATUS (R28). -/
def State.status (s : State) : Status :=
  { busy := s.seqState.busy
    tickPending := s.tickPending
    overflow := s.overflow
    stopped := decide (s.seqState = .stopped)
    qCount := s.qCount }

end Sys2Proof.Machine
end

