-- ==== Sys2Proof/Machine/Sequencer.lean ====
section
/-! DEFINITION. The steps that are no instruction (44_sequencer.md): IDLE and SWEEP of the BLOCK, ENQUEUE, TICK, SHUTDOWN,
RESET and the inputs of the HOST, RxByte and RxTimeout of the CHANNEL; and the fetch of a code. -/

namespace Sys2Proof.Machine

/-- The IDLE step (R230, R232, R256): SHUTDOWN_REQ before TICK_PENDING; at a tick the head of the FIFO goes to CUR_JOB, an
empty FIFO goes straight to SWEEP. With neither flag no BLOCK step is enabled. -/
def State.idleStep (s : State) : State :=
  if s.shutdownReq then (s.withTick false).withSeq .stopped
  else if s.tickPending then
    match s.q with
    | w :: rest => (((s.withTick false).withQueue rest).withCurJob (some w)).withSeq .exec
    | [] => (s.withTick false).withSeq .sweep
  else s

/-- Is (NOW - LAST) mod 2^32 strictly greater than the interval (R247)? -/
def intervalExceeded (now last interval : BitVec 32) : Bool := decide (interval.toNat < (now - last).toNat)

/-- Enqueue of each word in turn (R234). -/
def State.enqueueAll (s : State) (cfg : Config) (words : List JobWord) : State :=
  words.foldl (fun t w => t.enqueue cfg w) s

/-- The poll-sweep check (R247). -/
def State.pollSweep (s : State) (cfg : Config) : State :=
  if intervalExceeded s.host.now s.lastPoll s.host.pollInterval then
    (s.withLastPoll s.host.now).enqueueAll cfg ((knownAddresses s.host.known).map pollWord)
  else s

/-- The clock-sync-sweep check (R248). -/
def State.syncSweep (s : State) (cfg : Config) : State :=
  if intervalExceeded s.host.now s.lastSync s.host.syncInterval then
    (s.withLastSync s.host.now).enqueueAll cfg ((knownAddresses s.host.known).map syncWord)
  else s

/-- The SWEEP step (R245): the poll sweep, then the sync sweep, then IDLE. -/
def State.sweepStep (s : State) (cfg : Config) : State := ((s.pollSweep cfg).syncSweep cfg).backToIdle

/-- The BLOCK steps that run no instruction. In RECEIVE and STOPPED none is enabled and nothing changes (R230; log 2). -/
def State.quietStep (s : State) (cfg : Config) : State :=
  match s.seqState with
  | .idle => s.idleStep
  | .sweep => s.sweepStep cfg
  | .exec => s
  | .send => s
  | .receive => s
  | .eval => s
  | .stopped => s

/-- Is the job word legal (30_encoding.md R108, R109)? -/
def legalWord (w : JobWord) : Bool :=
  match decodeJob w with
  | .ok _ => true
  | .error _ => false

/-- ENQUEUE of the host (R22), in every SEQ_STATE: an ill-formed word first, then the full FIFO. -/
def State.hostEnqueue (s : State) (cfg : Config) (w : JobWord) : State :=
  if legalWord w then
    if s.hasRoom cfg then (s.pushJob w).addResponse .accepted
    else (s.withOverflow true).addResponse .rejectFull
  else s.addResponse .rejectIllegal

/-- RESET (70_reset_and_hazards.md R300): every element of the block at its value of R44. The host's inputs, the
coming actions and what was put out before are none of the block's elements (log 15). -/
def State.resetBlock (s : State) : State :=
  { State.reset with
    host := s.host
    schedule := s.schedule
    reports := s.reports
    sent := s.sent
    responses := s.responses }

/-- The byte stored as RX_BUF[RX_COUNT], RX_COUNT counted up, and EVAL when it reaches RX_LIMIT (R242). -/
def State.storeByte (s : State) (b : Byte) : State :=
  let t := s.withRx (s.rxBuf ++ [b])
  if t.rxCount = s.rxLimit then t.withSeq .eval else t

/-- RxByte(b) (R241, R242): kept in RECEIVE, discarded elsewhere. A byte that RX_BUF has no place for faults (log 7). -/
def State.rxByte (s : State) (cfg : Config) (b : Byte) : Host.Outcome State Fault Refusal :=
  if s.seqState = .receive then
    if s.rxCount < cfg.rxCapacity then .next (s.storeByte b) else .fault .rxIndexOutside
  else .next s

/-- RxTimeout (R243): it ends the reception in RECEIVE and has no effect elsewhere. -/
def State.rxTimeout (s : State) : State := if s.seqState = .receive then s.withSeq .eval else s

/-- Where the BLOCK's next code comes from. -/
inductive Fetched where
  /-- The job word of CUR_JOB or the FUNC byte of TX_BUF. -/
  | code (c : Code)
  /-- A read of state that holds no value. -/
  | noValue (f : Fault)
  /-- The step runs no instruction. -/
  | nothing
deriving DecidableEq, Repr

/-- The position of FUNC in a request frame (30_encoding.md R90). -/
def funcIndex : Nat := 3

/-- The fetch (R236, R240, R244): CUR_JOB in EXEC and EVAL, TX_BUF[3] in SEND. -/
def State.fetch (s : State) : Fetched :=
  match s.seqState with
  | .exec =>
    match s.curJob with
    | some w => .code (.job w)
    | none => .noValue .curJobNoValue
  | .eval =>
    match s.curJob with
    | some w => .code (.job w)
    | none => .noValue .curJobNoValue
  | .send =>
    match s.txRead funcIndex with
    | some b => .code (.func b)
    | none => .noValue .txByteNoValue
  | .idle => .nothing
  | .receive => .nothing
  | .sweep => .nothing
  | .stopped => .nothing

/-- The first action of the schedule is taken off it. -/
def State.popAction (s : State) : State := s.withSchedule s.schedule.tail

end Sys2Proof.Machine
end

