-- ==== Sys2Proof/Machine/Step.lean ====
section
/-! DEFINITION. One step: the agent that the schedule names takes one atomic transition (10_state.md R20). -/

namespace Sys2Proof.Machine

/-- The BLOCK's step: the instruction of the fetched code, or a step that runs none (R230). -/
def blockStep (s : State) : Host.Outcome State Fault Refusal :=
  match s.fetch with
  | .code c =>
    match decode c with
    | .ok i => exec i s
    | .error e => .refused (.illegalCode e)
  | .noValue f => .fault f
  | .nothing => .next (s.quietStep Config.ofBlock)

/-- The step of the agent an action belongs to (R22 to R26, R29). -/
def agentStep (a : Action) (s : State) : Host.Outcome State Fault Refusal :=
  match a with
  | .block => blockStep s
  | .enqueue w => .next (s.hostEnqueue Config.ofBlock w)
  | .tick => .next s.tick
  | .shutdown => .next s.shutdown
  | .reset => .next s.resetBlock
  | .drive i => .next (s.withHost i)
  | .rxByte b => s.rxByte Config.ofBlock b
  | .rxTimeout => .next s.rxTimeout

/-- Whose step it is: the schedule's head, the BLOCK when nothing is scheduled (log 1). -/
def State.nextAction (s : State) : Action := s.schedule.headD .block

/-- One step, with the parameters of the configuration (10_state.md R40). -/
def step (s : State) : Host.Outcome State Fault Refusal := agentStep s.nextAction s.popAction

/-- The schedule that lets the BLOCK move next. -/
def blockFirst (l : List Action) : List Action :=
  match l with
  | [] => []
  | a :: rest => .block :: a :: rest

/-- `s` with an instruction where the next step fetches one: a job word in CUR_JOB with SEQ_STATE = EXEC, or a FUNC byte in
TX_BUF[3] of a ten-byte frame of zeros with SEQ_STATE = SEND; the BLOCK moves next (log 11). -/
def State.withFetchWord (s : State) (nbits w : Nat) : State :=
  if nbits = 32 then
    { s with seqState := .exec, curJob := some (BitVec.ofNat 32 w), schedule := blockFirst s.schedule }
  else
    { s with
      seqState := .send
      txBuf := [0#8, 0#8, 0#8, BitVec.ofNat 8 w, 0#8, 0#8, 0#8, 0#8, 0#8, 0#8]
      schedule := blockFirst s.schedule }

end Sys2Proof.Machine
end

