-- ==== Sys2Proof/Safety.lean ====
section
/-! DEFINITION. What counts as a sound state and as the end of a run, in the terms the statements use. -/

namespace Sys2Proof.Machine

/-- CUR_JOB holds a value in these states and in no other: from the pop to the end of EVAL or of a failed EXEC (10_state.md
R34). -/
def SeqState.hasJob : SeqState → Bool
  | .exec => true
  | .send => true
  | .receive => true
  | .eval => true
  | .idle => false
  | .sweep => false
  | .stopped => false

/-- TX_BUF holds the current job's request in these states (R236, R240). -/
def SeqState.framed : SeqState → Bool
  | .send => true
  | .receive => true
  | .eval => true
  | .exec => false
  | .idle => false
  | .sweep => false
  | .stopped => false

/-- A run ends when SEQ_STATE = STOPPED (70_reset_and_hazards.md R309). -/
def State.ended (s : State) : Bool := decide (s.seqState = .stopped)

/-- The fields of a job's request frame (30_encoding.md R103): the payload of SYNC_CLOCK is any four bytes here, since it
depends on the time of EXEC. -/
def requestServes (i : Instr) (f : RequestFrame) : Bool :=
  match i with
  | .poll a => f == { dest := a, func := .read, start := 0x0000#16, endField := 0xFFFF#16, payload := [] }
  | .probe a => f == { dest := a, func := .read, start := 0x0000#16, endField := 0xFFFF#16, payload := [] }
  | .setTemp a t _ => f == { dest := a, func := .write, start := 18#16, endField := 1#16, payload := [t] }
  | .setHotWater a on =>
    f == { dest := a, func := .write, start := 42#16, endField := 1#16, payload := [if on then 0x01#8 else 0x00#8] }
  | .syncClock a =>
    f.payload.length == 4 &&
      f == { dest := a, func := .write, start := 43#16, endField := 4#16, payload := f.payload }
  | .read => false
  | .write => false

/-- The frames the block lets onto the bus: well-formed ones (30_encoding.md R90 to R93, 41_frame_codec.md R143), a write to
one of the addresses 1 to 31 only (20_memory.md R64, 43_dispatcher.md R201), its temperature in the range of one of the units
(R217), its hot-water mode 0 or 1 (R219). -/
def sentByBlock (f : RequestFrame) : Bool :=
  f.wellFormed &&
    match f.func with
    | .read => true
    | .write =>
      deviceAddress f.dest &&
        (f.start != 18#16 || f.payload.all (fun v => inTempRange v .celsius || inTempRange v .fahrenheit)) &&
        (f.start != 42#16 || f.payload.all (fun v => v == 0x00#8 || v == 0x01#8))

/-- Is the frame a request of the block that serves the job? -/
def frameServes (i : Instr) (frame : List Byte) : Bool :=
  match decodeRequest frame with
  | some f => sentByBlock f && requestServes i f
  | none => false

/-- Is the frame a request that the block sends? -/
def legalRequest (frame : List Byte) : Bool :=
  match decodeRequest frame with
  | some f => sentByBlock f
  | none => false

/-- The invariant of the block: what holds at reset and after every step of every agent. -/
structure Inv (s : State) : Prop where
  /-- Q has at most P_QUEUE_DEPTH words (R33). -/
  queueBound : s.q.length ≤ Config.ofBlock.queueDepth
  /-- Only well-formed words enter the FIFO (R108, R234). -/
  queueLegal : ∀ w ∈ s.q, legalWord w = true
  /-- CUR_JOB holds a value exactly in its window (R34). -/
  jobWindow : s.curJob.isSome = s.seqState.hasJob
  /-- CUR_JOB was popped from the FIFO (R232). -/
  jobLegal : ∀ w, s.curJob = some w → legalWord w = true
  /-- TX_LEN is at most TX_MAX (R31). -/
  txBound : s.txLen ≤ Config.txMax
  /-- RX_COUNT stays in RX_BUF (R11, R32). -/
  rxBound : s.rxCount ≤ Config.ofBlock.rxCapacity
  /-- RX_LIMIT stays in RX_BUF (R11, R32). -/
  limitBound : s.rxLimit ≤ Config.ofBlock.rxCapacity
  /-- From SEND to EVAL, TX_BUF holds the current job's request (R103, R236). -/
  requestInFlight : s.seqState.framed = true →
    ∀ w i, s.curJob = some w → decodeJob w = .ok i → frameServes i s.txBuf = true
  /-- From SEND to EVAL, RX_LIMIT is that of the current job's class (R200). -/
  limitInFlight : s.seqState.framed = true →
    ∀ w i k, s.curJob = some w → decodeJob w = .ok i → i.jobKind = some k →
      s.rxLimit = limitOf Config.ofBlock (evalClass k)
  /-- In RECEIVE the read limit is not yet reached (R242). -/
  receiving : s.seqState = .receive → s.rxCount < s.rxLimit
  /-- In EVAL the read limit is not passed (R242). -/
  received : s.seqState = .eval → s.rxCount ≤ s.rxLimit
  /-- STOPPED is entered by SHUTDOWN, with no tick pending (R256). -/
  stopped : s.seqState = .stopped → s.tickPending = false ∧ s.shutdownReq = true

/-- The KIND of a legal job word. -/
def kindOfWord (w : JobWord) : Option JobKind :=
  match decodeJob w with
  | .ok i => i.jobKind
  | .error _ => none

/-- The outcomes a kind can end with (60_exceptions.md R271). -/
def outcomePossible (k : JobKind) (o : OutcomeCode) : Bool :=
  match o with
  | .ok => true
  | .noReply => true
  | .configuration => true
  | .queueOverflow => true
  | .shortReply => evalClass k = .ack
  | .malformedBlock => evalClass k = .status
  | .outOfRange => k = .setTemp

/-- The causes a kind's outcome can carry: EMPTY comes from POLL and PROBE only, and every outcome but NO_REPLY has CAUSE 0
(30_encoding.md R105, 60_exceptions.md R271). -/
def causePossible (k : JobKind) (o : OutcomeCode) (cause : Nat) : Bool :=
  match o with
  | .noReply => cause == 0 || (cause == 1 && decide (evalClass k = .status)) || cause == 2
  | .ok => cause == 0
  | .shortReply => cause == 0
  | .malformedBlock => cause == 0
  | .outOfRange => cause == 0
  | .configuration => cause == 0
  | .queueOverflow => cause == 0

/-- Can a job of this kind with this outcome go back to the FIFO (44_sequencer.md R251)? A PROBE's NO_REPLY does only when
P_PROBE_RETRY is true. -/
def requeuePossible (cfg : Config) (k : JobKind) (o : OutcomeCode) : Bool :=
  match o with
  | .noReply => decide (k ≠ .probe) || cfg.probeRetry
  | .shortReply => true
  | .malformedBlock => true
  | .ok => false
  | .outOfRange => false
  | .configuration => false
  | .queueOverflow => false

/-- What R105, R106, R251, R252 and R271 ask of a report. -/
def reportSound (r : Report) : Bool :=
  match kindOfWord r.job with
  | none => false
  | some k =>
    outcomePossible k r.outcome &&
    causePossible k r.outcome r.cause &&
    (!r.requeued || requeuePossible Config.ofBlock k r.outcome) &&
    (r.present == decide (k = .probe ∧ (r.outcome = .ok ∨ r.outcome = .malformedBlock))) &&
    (r.record.isSome == decide (r.outcome = .ok ∧ evalClass k = .status))

/-- Every report the sink holds is sound. -/
def ReportsSound (s : State) : Prop := ∀ r ∈ s.reports, reportSound r = true

/-- Every frame the channel has taken is a request that the block sends. -/
def SentLegal (s : State) : Prop := ∀ f ∈ s.sent, legalRequest f = true

/-- The outcome reports the sink holds, the QUEUE_OVERFLOW reports left out. -/
def outcomeReports (s : State) : Nat := (s.reports.filter (fun r => decide (r.outcome ≠ .queueOverflow))).length

/-- One when a job is in its window, else zero. -/
def jobsInFlight (s : State) : Nat := if s.curJob.isSome then 1 else 0

end Sys2Proof.Machine
end

