-- ==== Sys2Proof/Certificates/Slice0/Obligations.lean ====
section
/-! DEFINITION. The statements for the provers, each with the rule of spec/ it formalises, and the plain terms they are
stated in. -/

namespace Sys2Proof.Claim

open Sys2Proof.Machine

/-- The outcome a result reports (R105). -/
def outcomeOf : JobResult → OutcomeCode
  | .ok _ => .ok
  | .noReply _ => .noReply
  | .shortReply => .shortReply
  | .malformedBlock => .malformedBlock
  | .outOfRange => .outOfRange
  | .configuration => .configuration

/-- The CAUSE a result reports: 0 TIMEOUT, 1 EMPTY, 2 CHECKSUM, and 0 for every other outcome (R105). -/
def causeOf : JobResult → Nat
  | .noReply .timeout => 0
  | .noReply .empty => 1
  | .noReply .checksum => 2
  | _ => 0

/-- The record a result carries (R106, R252). -/
def recordOf : JobResult → Option DeviceInfoRecord
  | .ok r => r
  | _ => none

/-- The report of a job as R106 lists its fields. -/
def reportOf (k : JobKind) (w : JobWord) (r : JobResult) (requeued : Bool) : Report :=
  { job := w
    outcome := outcomeOf r
    cause := causeOf r
    requeued := requeued
    present := decide (k = .probe ∧ (outcomeOf r = .ok ∨ outcomeOf r = .malformedBlock))
    record := recordOf r }

/-- The report of a lost job as R234 lists its fields. -/
def lostReport (w : JobWord) : Report :=
  { job := w, outcome := .queueOverflow, cause := 0, requeued := false, present := false, record := none }

/-- Should the job be retried, by the table of R251? -/
def shouldRetry (cfg : Config) (k : JobKind) (r : JobResult) : Bool :=
  match outcomeOf r, k with
  | .noReply, .probe => cfg.probeRetry
  | .noReply, _ => true
  | .shortReply, _ => true
  | .malformedBlock, _ => true
  | _, _ => false

/-- The state in which a job with word `w` has ended with result `r`: every field not named is that of `s`. -/
def endedState (s : State) (k : JobKind) (w : JobWord) (r : JobResult) : State :=
  let again := shouldRetry Config.ofBlock k r
  let room := decide (s.q.length < Config.ofBlock.queueDepth)
  { s with
    reports := s.reports ++ reportOf k w r (again && room) :: (if again && !room then [lostReport w] else [])
    q := if again && room then s.q ++ [w] else s.q
    overflow := s.overflow || (again && !room)
    curJob := none
    seqState := .sweep }

/-- The accumulators after a status reply is judged: a reply of three bytes or more is checked. That they keep the result is
the model's reading (log 10). -/
def crcAfterStatus (c : CrcAcc) (raw : List Byte) : CrcAcc :=
  if raw.length < 3 then c else computeCRC (raw.take (raw.length - 2))

/-- The accumulators after an acknowledgement is judged: one of seven bytes or more is checked. That they keep the result is
the model's reading (log 10). -/
def crcAfterAck (c : CrcAcc) (raw : List Byte) : CrcAcc :=
  if raw.length < 7 then c else computeCRC (raw.take (raw.length - 2))

/-- The state after EXEC has built a request from its bytes before the trailer. That the accumulators keep the CRC of those
bytes is the model's reading (log 10). -/
def requestState (s : State) (body : List Byte) (limit : Nat) : State :=
  { s with
    txBuf := body ++ [(computeCRC body).lo, (computeCRC body).hi]
    crc := computeCRC body
    rxLimit := limit
    seqState := .send }

/-- One bit of the CRC with generator 0x1021, the most significant bit first (R128). -/
def crcBit (acc : BitVec 16) (bit : Bool) : BitVec 16 :=
  if xor acc.msb bit then (acc <<< 1) ^^^ 0x1021#16 else acc <<< 1

/-- The bits of a byte, the most significant first. -/
def bitsOf (b : Byte) : List Bool := (List.range 8).map (fun i => b.getLsbD (7 - i))

/-- The bitwise CRC with generator 0x1021 and initial value 0xFFFF (R128). -/
def crcBitwise (bytes : List Byte) : BitVec 16 := (bytes.flatMap bitsOf).foldl crcBit 0xFFFF#16

/-- The byte of a reply at DCB index d (20_memory.md R61). -/
def dcb (raw : List Byte) (d : Nat) : Byte := raw.getD (9 + d) 0#8

/-- The big-endian pair of a reply at DCB index d (20_memory.md R68). -/
def dcbPair (raw : List Byte) (d : Nat) : HalfWord := BitVec.ofNat 16 ((dcb raw d).toNat * 256 + (dcb raw (d + 1)).toNat)

/-- The declared frame length of a reply (42_dcb_parser.md R171). -/
def frameLength (raw : List Byte) : Nat := (raw.getD 1 0#8).toNat + 256 * (raw.getD 2 0#8).toNat

/-- The model byte of a reply (R174). -/
def modelByte (raw : List Byte) : Nat := (raw.getD 13 0#8).toNat

/-- The least length of a reply with this model (R178). -/
def neededLength (model : Nat) : Nat :=
  match model with
  | 2 => 51
  | 3 => 51
  | 4 => 52
  | _ => 47

/-- A TEMP16 reading (R180). -/
def reading (v : HalfWord) : Temp16 := if v.toNat = 65535 then .absent else .present (v.toNat / 10) v

/-- An on/off-like byte (R183). -/
def onOffByte (b : Byte) : Switch := { raw := b, isOn := decide (b.toNat ≠ 0) }

/-- The clock echo that starts at DCB index d. -/
def clockAt (raw : List Byte) (d : Nat) : ClockEcho :=
  { weekday := dcb raw d, hour := dcb raw (d + 1), minute := dcb raw (d + 2), second := dcb raw (d + 3) }

/-- The tail that R175 and R176 give a model. -/
def tailOf (raw : List Byte) : Tail :=
  match modelByte raw with
  | 2 => .prt (clockAt raw 36)
  | 3 => .prt (clockAt raw 36)
  | 4 => .prthw (onOffByte (dcb raw 36)) (clockAt raw 37)
  | _ => .dt

/-- An address that R201 allows to every kind. -/
def deviceAddr (a : Byte) : Bool := decide (1 ≤ a.toNat ∧ a.toNat ≤ 31)

/-- Does the job's prepare build a frame (R201, R202, R217)? If not, it gives an early outcome. -/
def buildsFrame : Instr → Bool
  | .poll a => deviceAddr a
  | .probe a => deviceAddr a || decide (a.toNat = 255)
  | .syncClock a => deviceAddr a
  | .setTemp a v .celsius => deviceAddr a && decide (5 ≤ v.toNat ∧ v.toNat ≤ 35)
  | .setTemp a v .fahrenheit => deviceAddr a && decide (41 ≤ v.toNat ∧ v.toNat ≤ 95)
  | .setHotWater a _ => deviceAddr a
  | .read => false
  | .write => false

/-- The steps that R230 allows from one SEQ_STATE to another, with their guards. -/
def Edge (s : State) (a : Action) (v : SeqState) : Prop :=
  match a, s.seqState, v with
  | .block, .idle, .stopped => s.shutdownReq = true
  | .block, .idle, .exec => s.shutdownReq = false ∧ s.tickPending = true ∧ s.q ≠ []
  | .block, .idle, .sweep => s.shutdownReq = false ∧ s.tickPending = true ∧ s.q = []
  | .block, .exec, .sweep => ∃ w i, s.curJob = some w ∧ decodeJob w = .ok i ∧ buildsFrame i = false
  | .block, .exec, .send => ∃ w i, s.curJob = some w ∧ decodeJob w = .ok i ∧ buildsFrame i = true
  | .block, .send, .receive => True
  | .block, .eval, .sweep => True
  | .block, .sweep, .idle => True
  | .rxByte _, .receive, .eval => s.rxCount + 1 = s.rxLimit
  | .rxTimeout, .receive, .eval => True
  | .reset, _, .idle => True
  | _, _, _ => False

/-- The job words a sweep enqueues: one for each known address from 1 to 31 in ascending order, ADDR in bits 15:8 and the
KIND below (R247, R248). -/
def sweepWords (known : BitVec 31) (kind : Nat) : List JobWord :=
  ((List.range 32).filter (fun a => decide (1 ≤ a) && known.getLsbD (a - 1))).map
    (fun a => BitVec.ofNat 32 (a * 256 + kind))

/-- The words that one SWEEP step enqueues, the poll jobs before the sync jobs (R245). -/
def sweptWords (s : State) : List JobWord :=
  (if (s.host.now - s.lastPoll).toNat > s.host.pollInterval.toNat then sweepWords s.host.known 0 else []) ++
    (if (s.host.now - s.lastSync).toNat > s.host.syncInterval.toNat then sweepWords s.host.known 1 else [])

/-- A step of the HOST other than RESET, or of the CHANNEL. -/
def besideTheBlock : Action → Bool
  | .block => false
  | .reset => false
  | .enqueue _ => true
  | .tick => true
  | .shutdown => true
  | .drive _ => true
  | .rxByte _ => true
  | .rxTimeout => true

/-- The bytes that arrive before the first timeout. -/
def bytesBeforeTimeout : List Action → List Byte
  | [] => []
  | a :: rest =>
    match a with
    | .rxTimeout => []
    | .rxByte b => b :: bytesBeforeTimeout rest
    | _ => bytesBeforeTimeout rest

end Sys2Proof.Claim

section
open Sys2Proof Sys2Proof.Machine Sys2Proof.Claim

/-- Words and FUNC bytes of the spec's own examples decode to what they stand for (30_encoding.md R101, R91; the words of
95_test_vectors.md section 2.2). -/
def Obligations.ExampleCodesDecode : Prop :=
  decode (.job 0x00000300#32) = .ok (.poll 3#8) ∧
  decode (.job 0x00000301#32) = .ok (.syncClock 3#8) ∧
  decode (.job 0x00150302#32) = .ok (.setTemp 3#8 21#8 .celsius) ∧
  decode (.job 0x0029030A#32) = .ok (.setTemp 3#8 41#8 .fahrenheit) ∧
  decode (.job 0x00010303#32) = .ok (.setHotWater 3#8 true) ∧
  decode (.job 0x0000FF04#32) = .ok (.probe 0xFF#8) ∧
  decode (.func 0x00#8) = .ok .read ∧
  decode (.func 0x01#8) = .ok .write ∧
  decode (.job 0x00000305#32) = .error .reservedKind ∧
  decode (.func 0x02#8) = .error .reservedFunction

/-- Decoding the code of an instruction gives it back, for every value of every operand. -/
def Obligations.DecodeOfEncodeIsIdentity : Prop := ∀ i : Instr, decode (encode i) = .ok i

/-- A code that decodes is the code of what it decodes to, so no bit of an encoding is dropped. -/
def Obligations.EncodeOfDecodeIsIdentity : Prop := ∀ (c : Code) (i : Instr), decode c = .ok i → encode i = c

/-- R108: a job word is well-formed when it selects exactly one row, no word selects two, and ENQUEUE accepts only
well-formed words. -/
def Obligations.LegalWordSelectsExactlyOneRow : Prop :=
  ∀ w : JobWord,
    legalWord w = wellFormedWord w ∧ (selectedRows w).length ≤ 1 ∧
      ∀ (cfg : Config) (s : State), (s.hostEnqueue cfg w).responses = s.responses ++ [.accepted] → wellFormedWord w = true

/-- R109: which words are illegal, and that ENQUEUE answers REJECT_ILLEGAL to them and changes nothing else. -/
def Obligations.IllegalWordsAreRejected : Prop :=
  ∀ (cfg : Config) (s : State) (w : JobWord),
    (legalWord w = false ↔
      5 ≤ (kindField w).toNat ∨ reservedLowField w ≠ 0#4 ∨ reservedHighField w ≠ 0#8 ∨
        (unitField w ≠ 0#1 ∧ kindField w ≠ 2#3) ∨
        (argField w ≠ 0#8 ∧ kindField w ≠ 2#3 ∧ kindField w ≠ 3#3) ∨
        (argField w &&& 0xFE#8 ≠ 0#8 ∧ kindField w = 3#3)) ∧
    (legalWord w = false → s.hostEnqueue cfg w = { s with responses := s.responses ++ [.rejectIllegal] })

/-- A request frame of the block is read back from its bytes, field for field (30_encoding.md R90 to R93). -/
def Obligations.RequestFrameRoundTrip : Prop :=
  ∀ f : RequestFrame, f.wellFormed = true → decodeRequest (encodeRequest f) = some f

/-- When the schedule gives the BLOCK the step and the code it fetches, CUR_JOB in EXEC and EVAL or TX_BUF[3] in SEND,
decodes to an instruction, the step is that instruction's meaning, on the state with the action taken off the schedule. -/
def Obligations.StepRunsTheDecodedInstruction : Prop :=
  ∀ (s : State) (c : Code) (i : Instr),
    s.nextAction = .block →
    (((s.seqState = .exec ∨ s.seqState = .eval) ∧ ∃ w, s.curJob = some w ∧ c = .job w) ∨
      (s.seqState = .send ∧ ∃ b, s.txRead 3 = some b ∧ c = .func b)) →
    decode c = .ok i →
    step s = exec i { s with schedule := s.schedule.tail }

/-- Where no BLOCK step is enabled, in IDLE without a flag, in RECEIVE and in STOPPED (R230), a step given to the BLOCK
changes nothing but the schedule. That such a step is a next state is the model's choice (log 2). -/
def Obligations.BlockWaitsWhereNoStepIsEnabled : Prop :=
  ∀ s : State,
    s.nextAction = .block →
    ((s.seqState = .idle ∧ s.shutdownReq = false ∧ s.tickPending = false) ∨
      s.seqState = .receive ∨ s.seqState = .stopped) →
    step s = .next { s with schedule := s.schedule.tail }

/-- R44: what every element of the block holds after reset. -/
def Obligations.ResetValues : Prop :=
  State.reset.seqState = .idle ∧ State.reset.tickPending = false ∧ State.reset.shutdownReq = false ∧
  State.reset.overflow = false ∧ State.reset.q = [] ∧ State.reset.qCount = 0 ∧ State.reset.curJob = none ∧
  (∀ i, State.reset.txRead i = none) ∧ State.reset.txLen = 0 ∧
  (∀ i, State.reset.rxRead i = none) ∧ State.reset.rxCount = 0 ∧ State.reset.rxLimit = 0 ∧
  State.reset.crc.hi = 0xFF#8 ∧ State.reset.crc.lo = 0xFF#8 ∧
  State.reset.lastPoll = 0#32 ∧ State.reset.lastSync = 0#32

/-- The invariant, the soundness of reports and the legality of sent frames hold at reset. -/
def Obligations.ResetIsSound : Prop := Inv State.reset ∧ ReportsSound State.reset ∧ SentLegal State.reset

/-- Every step of every agent keeps the invariant. -/
def Obligations.EveryStepKeepsTheInvariant : Prop := ∀ s t : State, Inv s → step s = .next t → Inv t

/-- From a state of the invariant no step faults and none is refused: the block raises no trap (60_exceptions.md R270). For a
BLOCK step in IDLE without a flag, in RECEIVE and in STOPPED, where R230 enables none, that it answers a next state is the
model's choice (log 2). -/
def Obligations.NoStepStopsUnderTheInvariant : Prop := ∀ s : State, Inv s → ∃ t, step s = .next t

/-- Every report the sink takes has an outcome and a CAUSE its kind can have (R105, R271), REQUEUED only where R251 retries,
and PRESENT and RECORD where R106 and R252 ask for them. -/
def Obligations.EveryStepKeepsReportsSound : Prop :=
  ∀ s t : State, Inv s → ReportsSound s → step s = .next t → ReportsSound t

/-- Only the block's own requests ever reach the bus: from the master's address 0x81, with a valid CRC, a READ of the whole
register range to 1..31 or 0xFF, or a WRITE to 1..31 of register 18 with a temperature in range, of register 42 with 0 or 1,
or of register 43 with four bytes (20_memory.md R63, R64; 30_encoding.md R90 to R93; 43_dispatcher.md R201, R217, R219). -/
def Obligations.EveryStepKeepsSentFramesLegal : Prop :=
  ∀ s t : State, Inv s → SentLegal s → step s = .next t → SentLegal t

/-- SEQ_STATE moves only along the edges of the table of R230, with their guards, and the BLOCK always moves on from EXEC,
SEND, EVAL and SWEEP. The guard of the two edges out of EXEC is what prepare gives for the word in CUR_JOB. -/
def Obligations.SeqStateMovesAlongTheEdges : Prop :=
  ∀ s t : State, step s = .next t →
    (t.seqState = s.seqState ∨ Edge s s.nextAction t.seqState) ∧
    (s.nextAction = .block →
      (s.seqState = .exec ∨ s.seqState = .send ∨ s.seqState = .eval ∨ s.seqState = .sweep) → t.seqState ≠ s.seqState)

/-- STOPPED is left by RESET only; in it nothing is sent, reported or started, ticks are ignored, and words may only be
added to the FIFO (R256). -/
def Obligations.StoppedIsLeftByResetOnly : Prop :=
  ∀ s t : State, s.seqState = .stopped → s.nextAction ≠ .reset → step s = .next t →
    t.seqState = .stopped ∧ t.curJob = s.curJob ∧ t.sent = s.sent ∧ t.reports = s.reports ∧
    t.tickPending = s.tickPending ∧ t.txBuf = s.txBuf ∧ t.rxBuf = s.rxBuf ∧
    t.lastPoll = s.lastPoll ∧ t.lastSync = s.lastSync ∧ ∃ added, t.q = s.q ++ added

/-- R22: the three answers to ENQUEUE, in every SEQ_STATE, and what each changes; R104: their codes. -/
def Obligations.EnqueueAnswers : Prop :=
  (EnqueueResponse.accepted.code = 0 ∧ EnqueueResponse.rejectIllegal.code = 1 ∧ EnqueueResponse.rejectFull.code = 2) ∧
  ∀ (s : State) (w : JobWord) (rest : List Action), s.schedule = .enqueue w :: rest →
    (wellFormedWord w = true → s.q.length < Config.ofBlock.queueDepth →
      step s = .next { s with schedule := rest, q := s.q ++ [w], responses := s.responses ++ [.accepted] }) ∧
    (wellFormedWord w = true → ¬ s.q.length < Config.ofBlock.queueDepth →
      step s = .next { s with schedule := rest, overflow := true, responses := s.responses ++ [.rejectFull] }) ∧
    (wellFormedWord w = false →
      step s = .next { s with schedule := rest, responses := s.responses ++ [.rejectIllegal] })

/-- R23: a TICK is latched in every SEQ_STATE except STOPPED, where it is ignored; one that arrives while another is pending
changes nothing. -/
def Obligations.TickIsLatched : Prop :=
  ∀ (s : State) (rest : List Action), s.schedule = .tick :: rest →
    (s.seqState ≠ .stopped → step s = .next { s with schedule := rest, tickPending := true }) ∧
    (s.seqState = .stopped → step s = .next { s with schedule := rest })

/-- SHUTDOWN is latched in every SEQ_STATE and changes nothing else (R24); an action that drives the host's inputs changes
them and nothing else (R26). That driving them is a step of its own is the model's choice (log 4). -/
def Obligations.ShutdownAndInputsAreLatched : Prop :=
  ∀ (s : State) (i : HostInputs) (rest : List Action),
    (s.schedule = .shutdown :: rest → step s = .next { s with schedule := rest, shutdownReq := true }) ∧
    (s.schedule = .drive i :: rest → step s = .next { s with schedule := rest, host := i })

/-- R37: SHUTDOWN_REQ is set by SHUTDOWN and by nothing else, and only RESET clears it. R38: OVERFLOW is set when an enqueue
of a legal word, the host's or an internal one, finds the FIFO full; only RESET clears it; and a step that sets it leaves the
FIFO full. -/
def Obligations.OnlyResetClearsStickyFlags : Prop :=
  (∀ s t : State, step s = .next t → s.nextAction ≠ .reset →
    (s.shutdownReq = true → t.shutdownReq = true) ∧
    (t.shutdownReq = true → s.shutdownReq = true ∨ s.nextAction = .shutdown) ∧
    (s.overflow = true → t.overflow = true) ∧
    (s.overflow = false → t.overflow = true → Config.ofBlock.queueDepth ≤ t.q.length)) ∧
  ∀ (cfg : Config) (s : State) (w : JobWord), legalWord w = true → cfg.queueDepth ≤ s.q.length →
    (s.hostEnqueue cfg w).overflow = true ∧ (s.enqueue cfg w).overflow = true

/-- A pending tick is consumed only by the IDLE step of the BLOCK, and by RESET (R231, R280). -/
def Obligations.TickIsConsumedOnlyInIdle : Prop :=
  ∀ s t : State, step s = .next t → s.tickPending = true → t.tickPending = false →
    (s.nextAction = .block ∧ s.seqState = .idle) ∨ s.nextAction = .reset

/-- R300: RESET in any SEQ_STATE puts every element of the block at its value of R44; the job in flight is lost with no
report and no re-enqueue. -/
def Obligations.ResetEffect : Prop :=
  ∀ (s : State) (rest : List Action), s.schedule = .reset :: rest →
    ∃ t, step s = .next t ∧
      t.seqState = .idle ∧ t.tickPending = false ∧ t.shutdownReq = false ∧ t.overflow = false ∧ t.q = [] ∧
      t.curJob = none ∧ t.txLen = 0 ∧ t.rxCount = 0 ∧ t.rxLimit = 0 ∧
      (∀ i, t.txRead i = none) ∧ (∀ i, t.rxRead i = none) ∧
      t.crc.hi = 0xFF#8 ∧ t.crc.lo = 0xFF#8 ∧ t.lastPoll = 0#32 ∧ t.lastSync = 0#32 ∧ t.reports = s.reports

/-- R241: an RxByte outside RECEIVE changes no state; in RECEIVE every byte is kept, in arrival order. The invariant rules
out a state in which RX_BUF has no place for the byte. -/
def Obligations.BytesAreKeptOnlyInReceive : Prop :=
  ∀ (s : State) (b : Byte) (rest : List Action), s.schedule = .rxByte b :: rest →
    (s.seqState ≠ .receive → step s = .next { s with schedule := rest }) ∧
    (Inv s → s.seqState = .receive → ∃ t, step s = .next t ∧ t.rxBuf = s.rxBuf ++ [b])

/-- R242: what receiving a byte does; RX_COUNT never exceeds RX_LIMIT. The invariant rules out a state whose RX_COUNT has
already reached RX_LIMIT in RECEIVE. -/
def Obligations.ReceivingAByte : Prop :=
  ∀ (s : State) (b : Byte) (rest : List Action), s.schedule = .rxByte b :: rest → Inv s → s.seqState = .receive →
    (s.rxCount + 1 = s.rxLimit →
      step s = .next { s with schedule := rest, rxBuf := s.rxBuf ++ [b], seqState := .eval }) ∧
    (s.rxCount + 1 ≠ s.rxLimit → step s = .next { s with schedule := rest, rxBuf := s.rxBuf ++ [b] }) ∧
    s.rxCount + 1 ≤ s.rxLimit

/-- RxTimeout ends the reception in RECEIVE, the bytes received so far kept, and has no effect elsewhere (R243). -/
def Obligations.TimeoutEndsReception : Prop :=
  ∀ (s : State) (rest : List Action), s.schedule = .rxTimeout :: rest →
    (s.seqState = .receive → step s = .next { s with schedule := rest, seqState := .eval }) ∧
    (s.seqState ≠ .receive → step s = .next { s with schedule := rest })

/-- R232: in IDLE with SHUTDOWN_REQ = 0 and TICK_PENDING = 1 the BLOCK consumes the tick, and takes the head of the FIFO to
EXEC or, with the FIFO empty, goes to SWEEP. -/
def Obligations.TickStartsOneJob : Prop :=
  ∀ s : State, s.nextAction = .block → s.seqState = .idle → s.shutdownReq = false → s.tickPending = true →
    (∀ w rest, s.q = w :: rest →
      step s = .next { s with
        schedule := s.schedule.tail, tickPending := false, q := rest, curJob := some w, seqState := .exec }) ∧
    (s.q = [] →
      step s = .next { s with schedule := s.schedule.tail, tickPending := false, seqState := .sweep })

/-- In IDLE, SHUTDOWN_REQ goes before TICK_PENDING: the BLOCK enters STOPPED and drops the tick (R256, R274). -/
def Obligations.ShutdownStopsInIdle : Prop :=
  ∀ s : State, s.nextAction = .block → s.seqState = .idle → s.shutdownReq = true →
    step s = .next { s with schedule := s.schedule.tail, tickPending := false, seqState := .stopped }

/-- R205: POLL. A legal address sends the ten-byte READ frame; another ends the job with CONFIGURATION and writes no buffer;
the reply is judged as a status reply. What CRC_HI and CRC_LO hold after each half is the model's reading (log 10). -/
def Obligations.PollHalves : Prop :=
  ∀ (s : State) (a : Byte) (w : JobWord), s.curJob = some w →
    (s.seqState = .exec → 1 ≤ a.toNat → a.toNat ≤ 31 →
      exec (.poll a) s =
        .next (requestState s [a, 0x0A#8, 0x81#8, 0x00#8, 0x00#8, 0x00#8, 0xFF#8, 0xFF#8] Config.ofBlock.maxReply)) ∧
    (s.seqState = .exec → (a.toNat = 0 ∨ 32 ≤ a.toNat) →
      exec (.poll a) s = .next (endedState s .poll w .configuration)) ∧
    (s.seqState = .eval →
      exec (.poll a) s =
        .next (endedState { s with crc := crcAfterStatus s.crc s.rxBuf } .poll w (evalStatus s.rxBuf)))

/-- R208: PROBE. As POLL, with 0xFF legal too; the report carries PRESENT. What CRC_HI and CRC_LO hold after each half is the
model's reading (log 10). -/
def Obligations.ProbeHalves : Prop :=
  ∀ (s : State) (a : Byte) (w : JobWord), s.curJob = some w →
    (s.seqState = .exec → ((1 ≤ a.toNat ∧ a.toNat ≤ 31) ∨ a.toNat = 255) →
      exec (.probe a) s =
        .next (requestState s [a, 0x0A#8, 0x81#8, 0x00#8, 0x00#8, 0x00#8, 0xFF#8, 0xFF#8] Config.ofBlock.maxReply)) ∧
    (s.seqState = .exec → (a.toNat = 0 ∨ (32 ≤ a.toNat ∧ a.toNat ≤ 254)) →
      exec (.probe a) s = .next (endedState s .probe w .configuration)) ∧
    (s.seqState = .eval →
      exec (.probe a) s =
        .next (endedState { s with crc := crcAfterStatus s.crc s.rxBuf } .probe w (evalStatus s.rxBuf)))

/-- R212: SYNC_CLOCK. The time is WALLCLOCK at the EXEC step, the second adjusted; the fourteen-byte WRITE of register 43.
What CRC_HI and CRC_LO hold after each half is the model's reading (log 10). -/
def Obligations.SyncClockHalves : Prop :=
  ∀ (s : State) (a : Byte) (w : JobWord), s.curJob = some w →
    (s.seqState = .exec → 1 ≤ a.toNat → a.toNat ≤ 31 →
      exec (.syncClock a) s =
        .next (requestState s
          [a, 0x0E#8, 0x81#8, 0x01#8, 0x2B#8, 0x00#8, 0x04#8, 0x00#8, s.host.wallclock.weekday, s.host.wallclock.hour,
            s.host.wallclock.minute, adjustSecond Config.ofBlock.clockWrap s.host.wallclock.second] 7)) ∧
    (s.seqState = .exec → (a.toNat = 0 ∨ 32 ≤ a.toNat) →
      exec (.syncClock a) s = .next (endedState s .syncClock w .configuration)) ∧
    (s.seqState = .eval →
      exec (.syncClock a) s =
        .next (endedState { s with crc := crcAfterAck s.crc s.rxBuf } .syncClock w (checkAck s.rxBuf)))

/-- R216: SET_TEMP. The address is checked before the range (R202); TEMP goes out in the job's own unit as the eleven-byte
WRITE of register 18. What CRC_HI and CRC_LO hold after each half is the model's reading (log 10). -/
def Obligations.SetTempHalves : Prop :=
  ∀ (s : State) (a v : Byte) (u : TempUnit) (w : JobWord), s.curJob = some w →
    (s.seqState = .exec → 1 ≤ a.toNat → a.toNat ≤ 31 →
      (match u with
        | .celsius => 5 ≤ v.toNat ∧ v.toNat ≤ 35
        | .fahrenheit => 41 ≤ v.toNat ∧ v.toNat ≤ 95) →
      exec (.setTemp a v u) s =
        .next (requestState s [a, 0x0B#8, 0x81#8, 0x01#8, 0x12#8, 0x00#8, 0x01#8, 0x00#8, v] 7)) ∧
    (s.seqState = .exec → 1 ≤ a.toNat → a.toNat ≤ 31 →
      (match u with
        | .celsius => v.toNat < 5 ∨ 35 < v.toNat
        | .fahrenheit => v.toNat < 41 ∨ 95 < v.toNat) →
      exec (.setTemp a v u) s = .next (endedState s .setTemp w .outOfRange)) ∧
    (s.seqState = .exec → (a.toNat = 0 ∨ 32 ≤ a.toNat) →
      exec (.setTemp a v u) s = .next (endedState s .setTemp w .configuration)) ∧
    (s.seqState = .eval →
      exec (.setTemp a v u) s =
        .next (endedState { s with crc := crcAfterAck s.crc s.rxBuf } .setTemp w (checkAck s.rxBuf)))

/-- R219: SET_HOT_WATER. The eleven-byte WRITE of register 42 with payload 1 or 0. What CRC_HI and CRC_LO hold after each
half is the model's reading (log 10). -/
def Obligations.SetHotWaterHalves : Prop :=
  ∀ (s : State) (a : Byte) (on : Bool) (w : JobWord), s.curJob = some w →
    (s.seqState = .exec → 1 ≤ a.toNat → a.toNat ≤ 31 →
      exec (.setHotWater a on) s =
        .next (requestState s
          [a, 0x0B#8, 0x81#8, 0x01#8, 0x2A#8, 0x00#8, 0x01#8, 0x00#8, if on then 0x01#8 else 0x00#8] 7)) ∧
    (s.seqState = .exec → (a.toNat = 0 ∨ 32 ≤ a.toNat) →
      exec (.setHotWater a on) s = .next (endedState s .setHotWater w .configuration)) ∧
    (s.seqState = .eval →
      exec (.setHotWater a on) s =
        .next (endedState { s with crc := crcAfterAck s.crc s.rxBuf } .setHotWater w (checkAck s.rxBuf)))

/-- In SEND, READ and WRITE discard any earlier reply, hand the whole of TX_BUF to the channel and go to RECEIVE; nothing else
changes (R240). R240 gives this effect to the SEND step and names neither: that the two frame functions carry no operand and
mean that step is the model's choice (log 8). -/
def Obligations.ReadAndWriteSendTheFrame : Prop :=
  ∀ s : State, s.seqState = .send →
    exec .read s = .next { s with rxBuf := [], sent := s.sent ++ [s.txBuf], seqState := .receive } ∧
    exec .write s = .next { s with rxBuf := [], sent := s.sent ++ [s.txBuf], seqState := .receive }

/-- Outside the SEQ_STATE that runs it an instruction faults by name, and so does a job without a word in CUR_JOB. Both stops
are the model's choice (log 9, log 6): R230 gives no such step and R42 no value. -/
def Obligations.InstructionsFaultOutsideTheirState : Prop :=
  ∀ (s : State) (i : Instr),
    (∀ k, i.jobKind = some k → s.seqState ≠ .exec → s.seqState ≠ .eval → exec i s = .fault .noHalfInThisState) ∧
    (∀ k, i.jobKind = some k → (s.seqState = .exec ∨ s.seqState = .eval) → s.curJob = none →
      exec i s = .fault .curJobNoValue) ∧
    ((i = .read ∨ i = .write) → s.seqState ≠ .send → exec i s = .fault .noHalfInThisState)

/-- READ is sent exactly for POLL and PROBE and is always ten bytes; WRITE is sent for the other kinds, eleven bytes for
SET_TEMP and SET_HOT_WATER and fourteen for SYNC_CLOCK (R220, R221, R93). -/
def Obligations.FunctionByteMatchesTheJob : Prop :=
  ∀ (s : State) (w : JobWord) (i : Instr) (k : JobKind),
    Inv s → s.seqState = .send → s.curJob = some w → decodeJob w = .ok i → i.jobKind = some k →
    (evalClass k = .status → s.txRead 3 = some 0x00#8 ∧ s.txLen = 10) ∧
    (evalClass k = .ack → s.txRead 3 = some 0x01#8) ∧
    (k = .setTemp ∨ k = .setHotWater → s.txLen = 11) ∧
    (k = .syncClock → s.txLen = 14)

/-- Only the BLOCK writes the bus, one frame in SEND, and it is the whole of TX_BUF (10_state.md R21, R240). -/
def Obligations.OnlySendWritesTheBus : Prop :=
  ∀ s t : State, step s = .next t →
    t.sent = s.sent ∨
      (s.nextAction = .block ∧ s.seqState = .send ∧ t.sent = s.sent ++ [s.txBuf] ∧ t.seqState = .receive)

/-- R146: the four results of decodeReply, the length before the CRC. -/
def Obligations.DecodeReplyResults : Prop :=
  ∀ raw : List Byte,
    (raw.length = 0 → decodeReply raw = .emptyNone) ∧
    (raw.length = 1 ∨ raw.length = 2 → decodeReply raw = .emptyShort) ∧
    (3 ≤ raw.length → verifyCRC raw = false → decodeReply raw = .badCrc) ∧
    (3 ≤ raw.length → verifyCRC raw = true → decodeReply raw = .valid)

/-- R204: how a status reply is judged. -/
def Obligations.StatusReplyJudgement : Prop :=
  ∀ raw : List Byte,
    (decodeReply raw = .emptyNone → evalStatus raw = .noReply .timeout) ∧
    (decodeReply raw = .emptyShort → evalStatus raw = .noReply .empty) ∧
    (decodeReply raw = .badCrc → evalStatus raw = .noReply .checksum) ∧
    (decodeReply raw = .valid →
      (∀ e, parseStatusBlock raw = .error e → evalStatus raw = .malformedBlock) ∧
      (∀ r, parseStatusBlock raw = .ok r → evalStatus raw = .ok (some r)))

/-- R148, R222: how an acknowledgement is judged, the same for the three writes; OK carries no record. -/
def Obligations.AcknowledgementJudgement : Prop :=
  ∀ raw : List Byte,
    judge (evalClass .syncClock) raw = checkAck raw ∧ judge (evalClass .setTemp) raw = checkAck raw ∧
    judge (evalClass .setHotWater) raw = checkAck raw ∧
    (raw.length = 0 → checkAck raw = .noReply .timeout) ∧
    (1 ≤ raw.length → raw.length < 7 → checkAck raw = .shortReply) ∧
    (7 ≤ raw.length → verifyCRC raw = false → checkAck raw = .noReply .checksum) ∧
    (7 ≤ raw.length → verifyCRC raw = true → checkAck raw = .ok none)

/-- R105: the codes of the outcomes and causes, what each CAUSE of a judged reply says of it, and CAUSE 0 for every other
outcome. R251: the retry table; OUT_OF_RANGE and CONFIGURATION never come from a reply. -/
def Obligations.OutcomeCodesAndRetryTable : Prop :=
  (OutcomeCode.ok.code = 0 ∧ OutcomeCode.noReply.code = 1 ∧ OutcomeCode.shortReply.code = 2 ∧
    OutcomeCode.malformedBlock.code = 3 ∧ OutcomeCode.outOfRange.code = 4 ∧ OutcomeCode.configuration.code = 5 ∧
    OutcomeCode.queueOverflow.code = 6) ∧
  (Cause.timeout.code = 0 ∧ Cause.empty.code = 1 ∧ Cause.checksum.code = 2) ∧
  (∀ r : JobResult, r.outcome = outcomeOf r ∧ r.causeCode = causeOf r) ∧
  (∀ (c : EvalClass) (raw : List Byte),
    (judge c raw = .noReply .timeout → raw.length = 0) ∧
    (judge c raw = .noReply .empty → c = .status ∧ (raw.length = 1 ∨ raw.length = 2)) ∧
    (judge c raw = .noReply .checksum → verifyCRC raw = false)) ∧
  (∀ (cfg : Config) (k : JobKind) (r : JobResult), retry cfg k r = shouldRetry cfg k r) ∧
  (∀ (c : EvalClass) (raw : List Byte), judge c raw ≠ .outOfRange ∧ judge c raw ≠ .configuration)

/-- R234: the block's own enqueue. -/
def Obligations.InternalEnqueue : Prop :=
  ∀ (cfg : Config) (s : State) (w : JobWord),
    (s.q.length < cfg.queueDepth → s.enqueue cfg w = { s with q := s.q ++ [w] }) ∧
    (¬ s.q.length < cfg.queueDepth →
      s.enqueue cfg w = { s with overflow := true, reports := s.reports ++ [lostReport w] })

/-- Every popped job gives exactly one outcome report: over a step that is no RESET, the outcome reports and the job in
flight together grow by one exactly when a job is popped (R233, R252). -/
def Obligations.EveryPoppedJobIsReportedOnce : Prop :=
  ∀ s t : State, Inv s → step s = .next t → s.nextAction ≠ .reset →
    outcomeReports t + jobsInFlight t =
      outcomeReports s + jobsInFlight s + (if s.seqState = .idle ∧ t.seqState = .exec then 1 else 0)

/-- R77: jobs leave the FIFO in the order they entered it: a step other than RESET takes at most the head away, in IDLE, and
adds words at the tail only. -/
def Obligations.FifoKeepsItsOrder : Prop :=
  ∀ s t : State, step s = .next t → s.nextAction ≠ .reset →
    (∃ added, t.q = s.q ++ added) ∨
      (s.seqState = .idle ∧ ∃ w rest, s.q = w :: rest ∧ t.curJob = some w ∧ t.q = rest)

/-- R245: the SWEEP step runs both checks on one NOW, enqueues what finds room, loses the rest with OVERFLOW and a report
each, and goes to IDLE; nothing else changes. -/
def Obligations.SweepStep : Prop :=
  ∀ s : State, s.nextAction = .block → s.seqState = .sweep →
    step s = .next { s with
      schedule := s.schedule.tail
      lastPoll := if (s.host.now - s.lastPoll).toNat > s.host.pollInterval.toNat then s.host.now else s.lastPoll
      lastSync := if (s.host.now - s.lastSync).toNat > s.host.syncInterval.toNat then s.host.now else s.lastSync
      q := s.q ++ (sweptWords s).take (Config.ofBlock.queueDepth - s.q.length)
      overflow := s.overflow || decide (Config.ofBlock.queueDepth - s.q.length < (sweptWords s).length)
      reports := s.reports ++ ((sweptWords s).drop (Config.ofBlock.queueDepth - s.q.length)).map lostReport
      seqState := .idle }

/-- The corner cases of the intervals (60_exceptions.md R286; 70_reset_and_hazards.md R303): interval 0 sweeps whenever NOW
differs, the largest interval never sweeps, and from LAST = 0 a sweep happens exactly when NOW exceeds the interval. -/
def Obligations.IntervalCornerCases : Prop :=
  ∀ now last interval : BitVec 32,
    (intervalExceeded now last 0#32 = true ↔ now ≠ last) ∧
    intervalExceeded now last 0xFFFFFFFF#32 = false ∧
    (intervalExceeded now 0#32 interval = true ↔ interval.toNat < now.toNat)

/-- R213: the second of SYNC_CLOCK under both wrap rules, on integers; no carry goes into the minute, hour or weekday. -/
def Obligations.SecondAdjustment : Prop :=
  (∀ s : Byte,
    (s.toNat ≤ 57 → (adjustSecond .quirk s).toNat = s.toNat + 2 ∧ (adjustSecond .mod60 s).toNat = s.toNat + 2) ∧
    (58 ≤ s.toNat →
      (adjustSecond .quirk s).toNat = s.toNat + 2 - 59 ∧ (adjustSecond .mod60 s).toNat = s.toNat + 2 - 60) ∧
    (adjustSecond .quirk s).toNat ≤ 198 ∧ (adjustSecond .mod60 s).toNat ≤ 198) ∧
  ∀ (wrap : ClockWrap) (c : WallClock),
    clockPayload wrap c = [c.weekday, c.hour, c.minute, adjustSecond wrap c.second]

/-- R217: the range of SET_TEMP in each unit. -/
def Obligations.TemperatureRange : Prop :=
  ∀ v : Byte,
    (inTempRange v .celsius = true ↔ 5 ≤ v.toNat ∧ v.toNat ≤ 35) ∧
    (inTempRange v .fahrenheit = true ↔ 41 ≤ v.toNat ∧ v.toNat ≤ 95)

/-- R178: a parse succeeds exactly when the declared and the received length reach past the layout's last field. -/
def Obligations.ParseSucceedsFromTheNeededLength : Prop :=
  (maxIndex .dt = 44 ∧ maxIndex .prt = 48 ∧ maxIndex .prthw = 49) ∧
  ∀ raw : List Byte,
    (∃ r, parseStatusBlock raw = .ok r) ↔ neededLength (modelByte raw) ≤ min (frameLength raw) raw.length

/-- The record of a successful parse, field by field, from the offsets of R176 and the kinds of R180 to R184. The offsets
and codes marked gk are the spec's own, unconfirmed by its source (log 13). -/
def Obligations.ParsedFieldsComeFromTheRom : Prop :=
  ∀ (raw : List Byte) (r : DeviceInfoRecord), parseStatusBlock raw = .ok r →
    r.frameLength.toNat = frameLength raw ∧ r.address = raw.getD 3 0#8 ∧
    r.dcbLength = dcbPair raw 0 ∧
    r.vendor = { code := dcb raw 2
                 name := match (dcb raw 2).toNat with | 0 => .heatmiser | 1 => .oem | _ => .unknown } ∧
    r.softwareVersion.toNat = (dcb raw 3).toNat % 128 ∧ r.floorLimitState.toNat = (dcb raw 3).toNat / 128 ∧
    r.modelID = { code := dcb raw 4
                  name := match (dcb raw 4).toNat with
                    | 0 => .dt | 1 => .dtE | 2 => .prt | 3 => .prtE | 4 => .prtHw | _ => .unknown } ∧
    r.temperatureFormat = { code := dcb raw 5
                            name := match (dcb raw 5).toNat with | 0 => .c | 1 => .f | _ => .unknown } ∧
    r.switchDifferential = dcb raw 6 ∧
    r.frostProtection = { code := dcb raw 7
                          name := match (dcb raw 7).toNat with | 0 => .disabled | 1 => .enabled | _ => .unknown } ∧
    r.calibrationOffset = dcbPair raw 8 ∧ r.outputDelay = dcb raw 10 ∧ r.upDownKeyLimit = dcb raw 12 ∧
    r.sensorSelection = { code := dcb raw 13
                          name := match (dcb raw 13).toNat with
                            | 0 => .builtinAir | 1 => .remoteAir | 2 => .floor | 3 => .builtinAirAndFloor
                            | 4 => .remoteAirAndFloor | _ => .unknown } ∧
    r.optimumStart = dcb raw 14 ∧ r.rateOfChange = dcb raw 15 ∧
    r.programMode = { code := dcb raw 16
                      name := match (dcb raw 16).toNat with | 0 => .fiveTwo | 1 => .sevenDay | _ => .unknown } ∧
    r.frostProtectTemp = dcb raw 17 ∧ r.setRoomTemp = dcb raw 18 ∧ r.floorMaxLimit = dcb raw 19 ∧
    r.floorMaxLimitEnable = onOffByte (dcb raw 20) ∧ r.onOff = onOffByte (dcb raw 21) ∧
    r.keyLock = onOffByte (dcb raw 22) ∧
    r.runMode = { code := dcb raw 23
                  name := match (dcb raw 23).toNat with | 0 => .heating | 1 => .frostProtection | _ => .unknown } ∧
    r.holidayHours = dcbPair raw 24 ∧ r.tempHoldMinutes = dcbPair raw 26 ∧
    r.remoteAirTemp = reading (dcbPair raw 28) ∧ r.floorTemp = reading (dcbPair raw 30) ∧
    r.airTemp = reading (dcbPair raw 32) ∧ r.heatingOn = onOffByte (dcb raw 35) ∧ r.tail = tailOf raw

/-- R185: the bytes the parser does not read never affect its result: reply offsets 0 and 4 to 8, DCB 11 and 34, and what
lies beyond the layout's last field. -/
def Obligations.UnreadBytesDoNotMatter : Prop :=
  ∀ raw raw' : List Byte, raw.length = raw'.length →
    (∀ i, i ≠ 0 → ¬ (4 ≤ i ∧ i ≤ 8) → i ≠ 9 + 11 → i ≠ 9 + 34 → i ≤ maxIndex (layoutOf (raw.getD 13 0#8)) →
      raw[i]? = raw'[i]?) →
    parseStatusBlock raw = parseStatusBlock raw'

/-- R180: TEMP16: the sentinel is tested on the raw value, and every other value is present with its tenths and truncated
degrees, at most 6553. -/
def Obligations.TemperatureReading : Prop :=
  ∀ v : HalfWord,
    (v.toNat = 65535 → temp16 v = .absent) ∧
    (v.toNat ≠ 65535 → temp16 v = .present (v.toNat / 10) v ∧ v.toNat / 10 ≤ 6553)

/-- R124: appendCRC keeps the bytes before the last two and writes the CRC there, low byte first; it refuses a buffer
shorter than 2. -/
def Obligations.AppendCrcEffect : Prop :=
  ∀ buf : List Byte,
    (buf.length < 2 → appendCRC buf = none) ∧
    (2 ≤ buf.length → ∃ out, appendCRC buf = some out ∧ out.length = buf.length ∧
      (∀ i, i < buf.length - 2 → out[i]? = buf[i]?) ∧
      out[buf.length - 2]? = some (computeCRC (buf.take (buf.length - 2))).lo ∧
      out[buf.length - 1]? = some (computeCRC (buf.take (buf.length - 2))).hi)

/-- R125: verifyCRC accepts exactly the buffers of three bytes or more whose last two bytes are the low and the high byte of
the CRC of the others; so it rejects every shorter buffer and every other trailer. R127: it accepts what appendCRC made of
every buffer of three bytes or more, and rejects it for two. -/
def Obligations.AppendThenVerify : Prop :=
  (∀ buf : List Byte,
    verifyCRC buf = true ↔
      3 ≤ buf.length ∧
        buf[buf.length - 2]? = some (computeCRC (buf.take (buf.length - 2))).lo ∧
        buf[buf.length - 1]? = some (computeCRC (buf.take (buf.length - 2))).hi) ∧
  ∀ buf out : List Byte, appendCRC buf = some out →
    (3 ≤ buf.length → verifyCRC out = true) ∧ (buf.length = 2 → verifyCRC out = false)

/-- R144: verifyCRC accepts every frame that buildFrame makes. R142: byte 1 of it is 10 plus the payload's length when that
fits a byte, and in the frames the block builds it is at most 14. -/
def Obligations.BuiltFramesVerify : Prop :=
  ∀ (dest : Byte) (start endOrLength : HalfWord) (payload : Option (List Byte)),
    verifyCRC (buildFrame dest start endOrLength payload) = true ∧
    (buildFrame dest start endOrLength payload).length = 10 + (payload.getD []).length ∧
    ((payload.getD []).length ≤ 245 →
      ∃ b, (buildFrame dest start endOrLength payload)[1]? = some b ∧ b.toNat = 10 + (payload.getD []).length) ∧
    ∀ f : RequestFrame, f.wellFormed = true →
      ∃ b, (encodeRequest f)[1]? = some b ∧ b.toNat = 10 + f.payload.length ∧ b.toNat ≤ 14

/-- The nibble tables of R120 are the multiples of 0x1021 (R128). -/
def Obligations.TablesAreMultiplesOfTheGenerator : Prop :=
  ∀ t : Nibble, (romHi t).toNat * 256 + (romLo t).toNat = t.toNat * 0x1021

/-- The nibble engine computes the bitwise CRC with generator 0x1021 and initial value 0xFFFF, the most significant bit
first, without reflection or final XOR (R128). -/
def Obligations.NibbleEngineIsTheBitwiseCrc : Prop :=
  ∀ bytes : List Byte,
    (computeCRC bytes).hi.toNat * 256 + (computeCRC bytes).lo.toNat = (crcBitwise bytes).toNat

/-- Nothing outside a CRC computation reads the accumulators, and nothing carries over from an earlier one (10_state.md R30,
40_crc.md R121): a step does the same whatever they hold, but for what it leaves in them. -/
def Obligations.CrcAccumulatorsAreNeverRead : Prop :=
  ∀ (s t : State) (c : CrcAcc), step s = .next t →
    ∃ c', step { s with crc := c } = .next { t with crc := c' }

/-- The parameters of the block are legal (00_scope.md R10), and no step but the host's own changes the host's inputs
(10_state.md R26, 60_exceptions.md R282). That driving them is a step of its own is the model's choice (log 4). -/
def Obligations.ParametersAreLegalAndInputsTheHosts : Prop :=
  (3 ≤ Config.ofBlock.maxReply ∧ 1 ≤ Config.ofBlock.queueDepth) ∧
  ∀ s t : State, step s = .next t → t.host = s.host ∨ ∃ i, s.nextAction = .drive i ∧ t.host = i

/-- STATUS reads the five values of 10_state.md R28. -/
def Obligations.StatusValues : Prop :=
  ∀ s : State,
    (s.status.busy = true ↔ s.seqState ≠ .idle ∧ s.seqState ≠ .stopped) ∧
    s.status.tickPending = s.tickPending ∧ s.status.overflow = s.overflow ∧
    (s.status.stopped = true ↔ s.seqState = .stopped) ∧ s.status.qCount = s.q.length

/-- A transaction that has reached SEND ends, whatever the channel delivers and whatever the host does but RESET: with steps
of the HOST and the CHANNEL before and after each of them, the BLOCK's SEND, EVAL and SWEEP steps bring it back to IDLE, with
its frame sent and exactly one more outcome report (R254, R257). Between SEND and EVAL the reception must end, by a timeout
(R243) or by the byte that reaches RX_LIMIT (R242), after which no timeout need come. -/
def Obligations.EveryTransactionEnds : Prop :=
  ∀ (s : State) (before during swept : List Action), Inv s → s.seqState = .send →
    (∀ a ∈ before ++ during ++ swept, besideTheBlock a = true) →
    (.rxTimeout ∈ during ∨ s.rxLimit ≤ (bytesBeforeTimeout during).length) →
    s.schedule = before ++ .block :: (during ++ .block :: (swept ++ [.block])) →
    ∃ t, Sys2Proof.core.run s.schedule.length s = .next t ∧
      t.seqState = .idle ∧ t.curJob = none ∧ t.schedule = [] ∧ outcomeReports t = outcomeReports s + 1 ∧
      t.sent = s.sent ++ [s.txBuf] ∧ t.rxBuf = (bytesBeforeTimeout during).take s.rxLimit

end
end

