-- ==== Sys2Proof/Laws/Codec.lean ====
section
/-! SUPPORT. Small lemmas of the CRC engine, the frame codec and the parser's reads. -/

namespace Sys2Proof.Machine

@[simp] theorem crcTrailer_length (c : CrcAcc) : (crcTrailer c).length = 2 := rfl

@[simp] theorem sealBody_length (body : List Byte) : (sealBody body).length = body.length + 2 := by
  simp [sealBody]

/-- The bytes before a trailer are the body. -/
@[simp] theorem crcBody_sealBody (body : List Byte) : crcBody (sealBody body) = body := by
  simp [crcBody, sealBody]

/-- The last two bytes of a sealed body are its trailer. -/
theorem drop_sealBody (body : List Byte) :
    (sealBody body).drop ((sealBody body).length - 2) = crcTrailer (computeCRC body) := by
  simp [sealBody]

/-- The CRC of a sequence goes on from the CRC of its beginning. -/
theorem computeCRC_append (a b : List Byte) : computeCRC (a ++ b) = b.foldl crcByte (computeCRC a) := by
  simp [computeCRC]

@[simp] theorem requestBody_length (d : Byte) (a e : HalfWord) (p : Option (List Byte)) :
    (requestBody d a e p).length = 8 + (payloadBytes p).length := by
  simp [requestBody]
  omega

@[simp] theorem buildFrame_length (d : Byte) (a e : HalfWord) (p : Option (List Byte)) :
    (buildFrame d a e p).length = 10 + (payloadBytes p).length := by
  simp [buildFrame]
  omega

/-- The four results of decodeReply (41_frame_codec.md R146). -/
theorem decodeReply_cases (raw : List Byte) :
    (raw.length = 0 ∧ decodeReply raw = .emptyNone) ∨
      (raw.length ≠ 0 ∧ raw.length < 3 ∧ decodeReply raw = .emptyShort) ∨
      (3 ≤ raw.length ∧ verifyCRC raw = true ∧ decodeReply raw = .valid) ∨
      (3 ≤ raw.length ∧ verifyCRC raw = false ∧ decodeReply raw = .badCrc) := by
  unfold decodeReply
  split_ifs with h0 h3 hv
  · exact .inl ⟨h0, rfl⟩
  · exact .inr (.inl ⟨h0, h3, rfl⟩)
  · exact .inr (.inr (.inl ⟨by omega, hv, rfl⟩))
  · exact .inr (.inr (.inr ⟨by omega, by simpa using hv, rfl⟩))

/-- A read of the parser answers exactly the byte of an index in range (42_dcb_parser.md R170). -/
theorem readByte_ok_iff (raw : List Byte) (n i : Nat) (b : Byte) :
    readByte raw n i = .ok b ↔ i < parseLimit n raw.length ∧ raw[i]? = some b := by
  unfold readByte inRange
  by_cases h : i < parseLimit n raw.length
  · cases hb : raw[i]? <;> simp [h]
  · simp [h]

/-- A read in range answers the byte. -/
theorem readByte_inRange {raw : List Byte} {n i : Nat} (h : i < parseLimit n raw.length) :
    readByte raw n i = .ok (raw.getD i 0#8) := by
  have hi : i < raw.length := by
    have := h
    unfold parseLimit at this
    omega
  rw [readByte_ok_iff]
  exact ⟨h, by simp [hi]⟩

/-- A read out of range fails with its index. -/
theorem readByte_outOfRange {raw : List Byte} {n i : Nat} (h : ¬ i < parseLimit n raw.length) :
    readByte raw n i = .error (.index i) := by
  simp [readByte, inRange, h]

/-- A sealed body of one byte or more passes its own check. -/
theorem verifyCRC_sealBody {body : List Byte} (h : 1 ≤ body.length) : verifyCRC (sealBody body) = true := by
  unfold verifyCRC
  rw [if_neg (by simp; omega), drop_sealBody, crcBody_sealBody]
  simp

/-- The two bytes of a 16-bit field make it again (20_memory.md R66). -/
@[simp] theorem joinBytes_highByte_lowByte (v : HalfWord) : joinBytes (highByte v) (lowByte v) = v := by
  apply BitVec.eq_of_getLsbD_eq
  intro i hi
  simp only [joinBytes, highByte, lowByte]
  interval_cases i <;> simp

/-- What a frame that reads back has: FUNC in its place and the length of its fields (30_encoding.md R90). -/
theorem decodeRequest_func {frame : List Byte} {f : RequestFrame} (h : decodeRequest frame = some f) :
    ∃ b, frame[3]? = some b ∧ frameFuncOf b = some f.func ∧ frame.length = 10 + f.payload.length := by
  unfold decodeRequest at h
  split at h
  · split_ifs at h with hc
    simp only [Option.map_eq_some_iff] at h
    obtain ⟨g, hg, rfl⟩ := h
    refine ⟨_, rfl, hg, ?_⟩
    have := hc.1
    simp [crcBody] at *
    omega
  · cases h

/-- What a status reply can be judged as (43_dispatcher.md R204). -/
theorem evalStatus_cases (raw : List Byte) :
    (∃ c, evalStatus raw = .noReply c) ∨ evalStatus raw = .malformedBlock ∨ ∃ r, evalStatus raw = .ok (some r) := by
  unfold evalStatus
  split
  · exact .inl ⟨_, rfl⟩
  · exact .inl ⟨_, rfl⟩
  · exact .inl ⟨_, rfl⟩
  · split
    · exact .inr (.inr ⟨_, rfl⟩)
    · exact .inr (.inl rfl)

/-- What an acknowledgement can be judged as, EMPTY never among its causes (43_dispatcher.md R222). -/
theorem checkAck_cases (raw : List Byte) :
    checkAck raw = .noReply .timeout ∨ checkAck raw = .shortReply ∨ checkAck raw = .ok none ∨
      checkAck raw = .noReply .checksum := by
  unfold checkAck
  split_ifs
  · exact .inl rfl
  · exact .inr (.inl rfl)
  · exact .inr (.inr (.inl rfl))
  · exact .inr (.inr (.inr rfl))

/-- The accumulators after a status reply: those of its check from three bytes on (41_frame_codec.md R146). -/
theorem crcAfterJudge_status (acc : CrcAcc) (raw : List Byte) :
    crcAfterJudge .status acc raw = if raw.length < 3 then acc else computeCRC (crcBody raw) := by
  have threshold : crcThreshold .status = 3 := rfl
  unfold crcAfterJudge crcAfterVerify
  rw [threshold]
  split_ifs <;> rfl

/-- The accumulators after an acknowledgement: those of its check from seven bytes on (41_frame_codec.md R148). -/
theorem crcAfterJudge_ack (acc : CrcAcc) (raw : List Byte) :
    crcAfterJudge .ack acc raw = if raw.length < 7 then acc else computeCRC (crcBody raw) := by
  have threshold : crcThreshold .ack = 7 := rfl
  unfold crcAfterJudge crcAfterVerify
  rw [threshold]
  split_ifs <;> first | rfl | omega

end Sys2Proof.Machine
end

