-- ==== Sys2Proof/Laws/Decode.lean ====
section
/-! SUPPORT. The fields of a job word and how a mask acts on them. -/

namespace Sys2Proof

section Fields
variable (k : BitVec 3) (u : BitVec 1) (a g : Byte)

@[simp] theorem kindField_jobWord : kindField (jobWord k u a g) = k := by
  apply BitVec.eq_of_getLsbD_eq
  intro i hi
  interval_cases i <;> simp [jobWord, kindField]

@[simp] theorem unitField_jobWord : unitField (jobWord k u a g) = u := by
  apply BitVec.eq_of_getLsbD_eq
  intro i hi
  have : i = 0 := by omega
  subst this
  simp [jobWord, unitField]

@[simp] theorem addrField_jobWord : addrField (jobWord k u a g) = a := by
  apply BitVec.eq_of_getLsbD_eq
  intro i hi
  interval_cases i <;> simp [jobWord, addrField]

@[simp] theorem argField_jobWord : argField (jobWord k u a g) = g := by
  apply BitVec.eq_of_getLsbD_eq
  intro i hi
  interval_cases i <;> simp [jobWord, argField]

@[simp] theorem onField_jobWord : onField (jobWord k u a g) = g.getLsbD 0 := by
  simp [jobWord, onField]

/-- A mask acts on each field by itself. -/
theorem jobWord_and (m : JobWord) :
    jobWord k u a g &&& m =
      jobWord (k &&& kindField m) (u &&& unitField m) (a &&& addrField m) (g &&& argField m) := by
  apply BitVec.eq_of_getLsbD_eq
  intro i hi
  interval_cases i <;> simp [jobWord, kindField, unitField, addrField, argField]

end Fields

/-- Two job words with reserved fields 0 are equal exactly when their fields are. -/
theorem jobWord_inj (k k' : BitVec 3) (u u' : BitVec 1) (a a' g g' : Byte) :
    jobWord k u a g = jobWord k' u' a' g' ↔ k = k' ∧ u = u' ∧ a = a' ∧ g = g' := by
  constructor
  · intro h
    refine ⟨?_, ?_, ?_, ?_⟩
    · simpa only [kindField_jobWord] using congrArg kindField h
    · simpa only [unitField_jobWord] using congrArg unitField h
    · simpa only [addrField_jobWord] using congrArg addrField h
    · simpa only [argField_jobWord] using congrArg argField h
  · rintro ⟨rfl, rfl, rfl, rfl⟩
    rfl

/-- When a word selects a row whose pattern has reserved fields 0, field by field. -/
theorem jobWord_and_eq (k k' : BitVec 3) (u u' : BitVec 1) (a a' g g' : Byte) (m p : JobWord)
    (hp : p = jobWord k' u' a' g') :
    jobWord k u a g &&& m = p ↔
      k &&& kindField m = k' ∧ u &&& unitField m = u' ∧ a &&& addrField m = a' ∧ g &&& argField m = g' := by
  rw [hp, jobWord_and, jobWord_inj]

/-- Two words are equal exactly when their fields are (30_encoding.md R100). -/
theorem word_ext_iff (w v : JobWord) :
    w = v ↔ kindField w = kindField v ∧ unitField w = unitField v ∧ reservedLowField w = reservedLowField v ∧
      addrField w = addrField v ∧ argField w = argField v ∧ reservedHighField w = reservedHighField v := by
  constructor
  · rintro rfl
    exact ⟨rfl, rfl, rfl, rfl, rfl, rfl⟩
  · rintro ⟨hk, hu, hl, ha, hg, hh⟩
    have bit {n : Nat} {x y : BitVec n} (h : x = y) (j : Nat) : x.getLsbD j = y.getLsbD j := by rw [h]
    apply BitVec.eq_of_getLsbD_eq
    intro i hi
    rcases (by omega : i < 3 ∨ i = 3 ∨ (4 ≤ i ∧ i < 8) ∨ (8 ≤ i ∧ i < 16) ∨ (16 ≤ i ∧ i < 24) ∨ 24 ≤ i) with
      h | h | h | h | h | h
    · have b := bit hk i
      simpa [kindField, h] using b
    · have b := bit hu 0
      subst h
      simpa [unitField] using b
    · have b := bit hl (i - 4)
      simpa [reservedLowField, show i - 4 < 4 by omega, show 4 + (i - 4) = i by omega] using b
    · have b := bit ha (i - 8)
      simpa [addrField, show i - 8 < 8 by omega, show 8 + (i - 8) = i by omega] using b
    · have b := bit hg (i - 16)
      simpa [argField, show i - 16 < 8 by omega, show 16 + (i - 16) = i by omega] using b
    · have b := bit hh (i - 24)
      simpa [reservedHighField, show i - 24 < 8 by omega, show 24 + (i - 24) = i by omega] using b

/-- When a masked word equals a pattern, field by field. -/
theorem and_eq_iff (w m p : JobWord) :
    w &&& m = p ↔ kindField w &&& kindField m = kindField p ∧ unitField w &&& unitField m = unitField p ∧
      reservedLowField w &&& reservedLowField m = reservedLowField p ∧ addrField w &&& addrField m = addrField p ∧
      argField w &&& argField m = argField p ∧
      reservedHighField w &&& reservedHighField m = reservedHighField p := by
  rw [word_ext_iff]
  simp only [kindField, unitField, reservedLowField, addrField, argField, reservedHighField, BitVec.extractLsb'_and]

@[simp] theorem reservedLowField_jobWord (k : BitVec 3) (u : BitVec 1) (a g : Byte) :
    reservedLowField (jobWord k u a g) = 0#4 := by
  apply BitVec.eq_of_getLsbD_eq
  intro i hi
  interval_cases i <;> simp [jobWord, reservedLowField]

@[simp] theorem reservedHighField_jobWord (k : BitVec 3) (u : BitVec 1) (a g : Byte) :
    reservedHighField (jobWord k u a g) = 0#8 := by
  apply BitVec.eq_of_getLsbD_eq
  intro i hi
  interval_cases i <;> simp [jobWord, reservedHighField]

/-- When a word selects the row of POLL, SYNC_CLOCK or PROBE, whose mask is 0xFFFF00FF (R101). -/
theorem selects_plain_iff (w : JobWord) (k : BitVec 3) :
    w &&& 0xFFFF00FF#32 = jobWord k 0#1 0#8 0#8 ↔
      kindField w = k ∧ unitField w = 0#1 ∧ reservedLowField w = 0#4 ∧ argField w = 0#8 ∧
        reservedHighField w = 0#8 := by
  rw [and_eq_iff, show kindField 0xFFFF00FF#32 = BitVec.allOnes 3 by decide,
    show unitField 0xFFFF00FF#32 = BitVec.allOnes 1 by decide,
    show reservedLowField 0xFFFF00FF#32 = BitVec.allOnes 4 by decide, show addrField 0xFFFF00FF#32 = 0#8 by decide,
    show argField 0xFFFF00FF#32 = BitVec.allOnes 8 by decide,
    show reservedHighField 0xFFFF00FF#32 = BitVec.allOnes 8 by decide]
  simp only [BitVec.and_allOnes, BitVec.and_zero, kindField_jobWord, unitField_jobWord, addrField_jobWord,
    argField_jobWord, reservedLowField_jobWord, reservedHighField_jobWord, true_and]

/-- When a word selects the row of SET_TEMP (R101). -/
theorem selects_setTemp_iff (w : JobWord) :
    w &&& 0xFF0000F7#32 = 0x00000002#32 ↔
      kindField w = 2#3 ∧ reservedLowField w = 0#4 ∧ reservedHighField w = 0#8 := by
  rw [show 0x00000002#32 = jobWord 2#3 0#1 0#8 0#8 by decide, and_eq_iff,
    show kindField 0xFF0000F7#32 = BitVec.allOnes 3 by decide, show unitField 0xFF0000F7#32 = 0#1 by decide,
    show reservedLowField 0xFF0000F7#32 = BitVec.allOnes 4 by decide, show addrField 0xFF0000F7#32 = 0#8 by decide,
    show argField 0xFF0000F7#32 = 0#8 by decide, show reservedHighField 0xFF0000F7#32 = BitVec.allOnes 8 by decide]
  simp only [BitVec.and_allOnes, BitVec.and_zero, kindField_jobWord, unitField_jobWord, addrField_jobWord,
    argField_jobWord, reservedLowField_jobWord, reservedHighField_jobWord, true_and]

/-- When a word selects the row of SET_HOT_WATER (R101). -/
theorem selects_setHotWater_iff (w : JobWord) :
    w &&& 0xFFFE00FF#32 = 0x00000003#32 ↔
      kindField w = 3#3 ∧ unitField w = 0#1 ∧ reservedLowField w = 0#4 ∧ argField w &&& 0xFE#8 = 0#8 ∧
        reservedHighField w = 0#8 := by
  rw [show 0x00000003#32 = jobWord 3#3 0#1 0#8 0#8 by decide, and_eq_iff,
    show kindField 0xFFFE00FF#32 = BitVec.allOnes 3 by decide, show unitField 0xFFFE00FF#32 = BitVec.allOnes 1 by decide,
    show reservedLowField 0xFFFE00FF#32 = BitVec.allOnes 4 by decide, show addrField 0xFFFE00FF#32 = 0#8 by decide,
    show argField 0xFFFE00FF#32 = 0xFE#8 by decide, show reservedHighField 0xFFFE00FF#32 = BitVec.allOnes 8 by decide]
  simp only [BitVec.and_allOnes, BitVec.and_zero, kindField_jobWord, unitField_jobWord, addrField_jobWord,
    argField_jobWord, reservedLowField_jobWord, reservedHighField_jobWord, true_and]

/-- A word whose reserved fields are 0 is made of its other fields. -/
theorem word_eq_jobWord (w : JobWord) (hl : reservedLowField w = 0#4) (hh : reservedHighField w = 0#8) :
    w = jobWord (kindField w) (unitField w) (addrField w) (argField w) := by
  rw [word_ext_iff]
  simp [hl, hh]

/-- The kinds of the rows a word with reserved fields 0 selects (R101). -/
theorem selectedRows_jobWord (k : BitVec 3) (u : BitVec 1) (a g : Byte) :
    (selectedRows (jobWord k u a g)).map JobRow.kind =
      if k = 0#3 ∧ u = 0#1 ∧ g = 0#8 then [.poll]
      else if k = 1#3 ∧ u = 0#1 ∧ g = 0#8 then [.syncClock]
      else if k = 2#3 then [.setTemp]
      else if k = 3#3 ∧ u = 0#1 ∧ g &&& 0xFE#8 = 0#8 then [.setHotWater]
      else if k = 4#3 ∧ u = 0#1 ∧ g = 0#8 then [.probe]
      else [] := by
  have hk : ∀ k : BitVec 3, k = 0 ∨ k = 1 ∨ k = 2 ∨ k = 3 ∨ k = 4 ∨ k = 5 ∨ k = 6 ∨ k = 7 := by decide
  have e0 := jobWord_and_eq k 0#3 u 0#1 a 0#8 g 0#8 0xFFFF00FF#32 0x00000000#32 (by decide)
  have e1 := jobWord_and_eq k 1#3 u 0#1 a 0#8 g 0#8 0xFFFF00FF#32 0x00000001#32 (by decide)
  have e2 := jobWord_and_eq k 2#3 u 0#1 a 0#8 g 0#8 0xFF0000F7#32 0x00000002#32 (by decide)
  have e3 := jobWord_and_eq k 3#3 u 0#1 a 0#8 g 0#8 0xFFFE00FF#32 0x00000003#32 (by decide)
  have e4 := jobWord_and_eq k 4#3 u 0#1 a 0#8 g 0#8 0xFFFF00FF#32 0x00000004#32 (by decide)
  rw [show kindField 0xFFFF00FF#32 = BitVec.allOnes 3 by decide, show unitField 0xFFFF00FF#32 = BitVec.allOnes 1 by decide,
    show addrField 0xFFFF00FF#32 = 0#8 by decide, show argField 0xFFFF00FF#32 = BitVec.allOnes 8 by decide] at e0 e1 e4
  rw [show kindField 0xFF0000F7#32 = BitVec.allOnes 3 by decide, show unitField 0xFF0000F7#32 = 0#1 by decide,
    show addrField 0xFF0000F7#32 = 0#8 by decide, show argField 0xFF0000F7#32 = 0#8 by decide] at e2
  rw [show kindField 0xFFFE00FF#32 = BitVec.allOnes 3 by decide, show unitField 0xFFFE00FF#32 = BitVec.allOnes 1 by decide,
    show addrField 0xFFFE00FF#32 = 0#8 by decide, show argField 0xFFFE00FF#32 = 0xFE#8 by decide] at e3
  simp only [BitVec.and_allOnes, BitVec.and_zero, true_and, and_true] at e0 e1 e2 e3 e4
  simp only [selectedRows, jobRows, JobRow.selectedBy, List.filter_cons, List.filter_nil, beq_iff_eq, e0, e1, e2, e3, e4]
  rcases hk k with rfl | rfl | rfl | rfl | rfl | rfl | rfl | rfl <;> simp <;> split <;> simp

end Sys2Proof
end

