-- ==== Sys2Proof/Laws/State.lean ====
section
/-! SUPPORT. What each update of the state leaves in each field: one lemma per field per update, so that no proof unfolds a
record update. -/

namespace Sys2Proof.Machine.State

section WithSeq
variable (s : State) (v : SeqState)
@[simp] theorem withSeq_seqState : (s.withSeq v).seqState = v := rfl
@[simp] theorem withSeq_tickPending : (s.withSeq v).tickPending = s.tickPending := rfl
@[simp] theorem withSeq_shutdownReq : (s.withSeq v).shutdownReq = s.shutdownReq := rfl
@[simp] theorem withSeq_overflow : (s.withSeq v).overflow = s.overflow := rfl
@[simp] theorem withSeq_q : (s.withSeq v).q = s.q := rfl
@[simp] theorem withSeq_curJob : (s.withSeq v).curJob = s.curJob := rfl
@[simp] theorem withSeq_txBuf : (s.withSeq v).txBuf = s.txBuf := rfl
@[simp] theorem withSeq_rxBuf : (s.withSeq v).rxBuf = s.rxBuf := rfl
@[simp] theorem withSeq_rxLimit : (s.withSeq v).rxLimit = s.rxLimit := rfl
@[simp] theorem withSeq_crc : (s.withSeq v).crc = s.crc := rfl
@[simp] theorem withSeq_lastPoll : (s.withSeq v).lastPoll = s.lastPoll := rfl
@[simp] theorem withSeq_lastSync : (s.withSeq v).lastSync = s.lastSync := rfl
@[simp] theorem withSeq_host : (s.withSeq v).host = s.host := rfl
@[simp] theorem withSeq_schedule : (s.withSeq v).schedule = s.schedule := rfl
@[simp] theorem withSeq_reports : (s.withSeq v).reports = s.reports := rfl
@[simp] theorem withSeq_sent : (s.withSeq v).sent = s.sent := rfl
@[simp] theorem withSeq_responses : (s.withSeq v).responses = s.responses := rfl
end WithSeq

section WithTick
variable (s : State) (v : Bool)
@[simp] theorem withTick_seqState : (s.withTick v).seqState = s.seqState := rfl
@[simp] theorem withTick_tickPending : (s.withTick v).tickPending = v := rfl
@[simp] theorem withTick_shutdownReq : (s.withTick v).shutdownReq = s.shutdownReq := rfl
@[simp] theorem withTick_overflow : (s.withTick v).overflow = s.overflow := rfl
@[simp] theorem withTick_q : (s.withTick v).q = s.q := rfl
@[simp] theorem withTick_curJob : (s.withTick v).curJob = s.curJob := rfl
@[simp] theorem withTick_txBuf : (s.withTick v).txBuf = s.txBuf := rfl
@[simp] theorem withTick_rxBuf : (s.withTick v).rxBuf = s.rxBuf := rfl
@[simp] theorem withTick_rxLimit : (s.withTick v).rxLimit = s.rxLimit := rfl
@[simp] theorem withTick_crc : (s.withTick v).crc = s.crc := rfl
@[simp] theorem withTick_lastPoll : (s.withTick v).lastPoll = s.lastPoll := rfl
@[simp] theorem withTick_lastSync : (s.withTick v).lastSync = s.lastSync := rfl
@[simp] theorem withTick_host : (s.withTick v).host = s.host := rfl
@[simp] theorem withTick_schedule : (s.withTick v).schedule = s.schedule := rfl
@[simp] theorem withTick_reports : (s.withTick v).reports = s.reports := rfl
@[simp] theorem withTick_sent : (s.withTick v).sent = s.sent := rfl
@[simp] theorem withTick_responses : (s.withTick v).responses = s.responses := rfl
end WithTick

section WithShutdown
variable (s : State) (v : Bool)
@[simp] theorem withShutdown_seqState : (s.withShutdown v).seqState = s.seqState := rfl
@[simp] theorem withShutdown_tickPending : (s.withShutdown v).tickPending = s.tickPending := rfl
@[simp] theorem withShutdown_shutdownReq : (s.withShutdown v).shutdownReq = v := rfl
@[simp] theorem withShutdown_overflow : (s.withShutdown v).overflow = s.overflow := rfl
@[simp] theorem withShutdown_q : (s.withShutdown v).q = s.q := rfl
@[simp] theorem withShutdown_curJob : (s.withShutdown v).curJob = s.curJob := rfl
@[simp] theorem withShutdown_txBuf : (s.withShutdown v).txBuf = s.txBuf := rfl
@[simp] theorem withShutdown_rxBuf : (s.withShutdown v).rxBuf = s.rxBuf := rfl
@[simp] theorem withShutdown_rxLimit : (s.withShutdown v).rxLimit = s.rxLimit := rfl
@[simp] theorem withShutdown_crc : (s.withShutdown v).crc = s.crc := rfl
@[simp] theorem withShutdown_lastPoll : (s.withShutdown v).lastPoll = s.lastPoll := rfl
@[simp] theorem withShutdown_lastSync : (s.withShutdown v).lastSync = s.lastSync := rfl
@[simp] theorem withShutdown_host : (s.withShutdown v).host = s.host := rfl
@[simp] theorem withShutdown_schedule : (s.withShutdown v).schedule = s.schedule := rfl
@[simp] theorem withShutdown_reports : (s.withShutdown v).reports = s.reports := rfl
@[simp] theorem withShutdown_sent : (s.withShutdown v).sent = s.sent := rfl
@[simp] theorem withShutdown_responses : (s.withShutdown v).responses = s.responses := rfl
end WithShutdown

section WithOverflow
variable (s : State) (v : Bool)
@[simp] theorem withOverflow_seqState : (s.withOverflow v).seqState = s.seqState := rfl
@[simp] theorem withOverflow_tickPending : (s.withOverflow v).tickPending = s.tickPending := rfl
@[simp] theorem withOverflow_shutdownReq : (s.withOverflow v).shutdownReq = s.shutdownReq := rfl
@[simp] theorem withOverflow_overflow : (s.withOverflow v).overflow = v := rfl
@[simp] theorem withOverflow_q : (s.withOverflow v).q = s.q := rfl
@[simp] theorem withOverflow_curJob : (s.withOverflow v).curJob = s.curJob := rfl
@[simp] theorem withOverflow_txBuf : (s.withOverflow v).txBuf = s.txBuf := rfl
@[simp] theorem withOverflow_rxBuf : (s.withOverflow v).rxBuf = s.rxBuf := rfl
@[simp] theorem withOverflow_rxLimit : (s.withOverflow v).rxLimit = s.rxLimit := rfl
@[simp] theorem withOverflow_crc : (s.withOverflow v).crc = s.crc := rfl
@[simp] theorem withOverflow_lastPoll : (s.withOverflow v).lastPoll = s.lastPoll := rfl
@[simp] theorem withOverflow_lastSync : (s.withOverflow v).lastSync = s.lastSync := rfl
@[simp] theorem withOverflow_host : (s.withOverflow v).host = s.host := rfl
@[simp] theorem withOverflow_schedule : (s.withOverflow v).schedule = s.schedule := rfl
@[simp] theorem withOverflow_reports : (s.withOverflow v).reports = s.reports := rfl
@[simp] theorem withOverflow_sent : (s.withOverflow v).sent = s.sent := rfl
@[simp] theorem withOverflow_responses : (s.withOverflow v).responses = s.responses := rfl
end WithOverflow

section WithQueue
variable (s : State) (v : List JobWord)
@[simp] theorem withQueue_seqState : (s.withQueue v).seqState = s.seqState := rfl
@[simp] theorem withQueue_tickPending : (s.withQueue v).tickPending = s.tickPending := rfl
@[simp] theorem withQueue_shutdownReq : (s.withQueue v).shutdownReq = s.shutdownReq := rfl
@[simp] theorem withQueue_overflow : (s.withQueue v).overflow = s.overflow := rfl
@[simp] theorem withQueue_q : (s.withQueue v).q = v := rfl
@[simp] theorem withQueue_curJob : (s.withQueue v).curJob = s.curJob := rfl
@[simp] theorem withQueue_txBuf : (s.withQueue v).txBuf = s.txBuf := rfl
@[simp] theorem withQueue_rxBuf : (s.withQueue v).rxBuf = s.rxBuf := rfl
@[simp] theorem withQueue_rxLimit : (s.withQueue v).rxLimit = s.rxLimit := rfl
@[simp] theorem withQueue_crc : (s.withQueue v).crc = s.crc := rfl
@[simp] theorem withQueue_lastPoll : (s.withQueue v).lastPoll = s.lastPoll := rfl
@[simp] theorem withQueue_lastSync : (s.withQueue v).lastSync = s.lastSync := rfl
@[simp] theorem withQueue_host : (s.withQueue v).host = s.host := rfl
@[simp] theorem withQueue_schedule : (s.withQueue v).schedule = s.schedule := rfl
@[simp] theorem withQueue_reports : (s.withQueue v).reports = s.reports := rfl
@[simp] theorem withQueue_sent : (s.withQueue v).sent = s.sent := rfl
@[simp] theorem withQueue_responses : (s.withQueue v).responses = s.responses := rfl
end WithQueue

section WithCurJob
variable (s : State) (v : Option JobWord)
@[simp] theorem withCurJob_seqState : (s.withCurJob v).seqState = s.seqState := rfl
@[simp] theorem withCurJob_tickPending : (s.withCurJob v).tickPending = s.tickPending := rfl
@[simp] theorem withCurJob_shutdownReq : (s.withCurJob v).shutdownReq = s.shutdownReq := rfl
@[simp] theorem withCurJob_overflow : (s.withCurJob v).overflow = s.overflow := rfl
@[simp] theorem withCurJob_q : (s.withCurJob v).q = s.q := rfl
@[simp] theorem withCurJob_curJob : (s.withCurJob v).curJob = v := rfl
@[simp] theorem withCurJob_txBuf : (s.withCurJob v).txBuf = s.txBuf := rfl
@[simp] theorem withCurJob_rxBuf : (s.withCurJob v).rxBuf = s.rxBuf := rfl
@[simp] theorem withCurJob_rxLimit : (s.withCurJob v).rxLimit = s.rxLimit := rfl
@[simp] theorem withCurJob_crc : (s.withCurJob v).crc = s.crc := rfl
@[simp] theorem withCurJob_lastPoll : (s.withCurJob v).lastPoll = s.lastPoll := rfl
@[simp] theorem withCurJob_lastSync : (s.withCurJob v).lastSync = s.lastSync := rfl
@[simp] theorem withCurJob_host : (s.withCurJob v).host = s.host := rfl
@[simp] theorem withCurJob_schedule : (s.withCurJob v).schedule = s.schedule := rfl
@[simp] theorem withCurJob_reports : (s.withCurJob v).reports = s.reports := rfl
@[simp] theorem withCurJob_sent : (s.withCurJob v).sent = s.sent := rfl
@[simp] theorem withCurJob_responses : (s.withCurJob v).responses = s.responses := rfl
end WithCurJob

section WithTx
variable (s : State) (v : List Byte)
@[simp] theorem withTx_seqState : (s.withTx v).seqState = s.seqState := rfl
@[simp] theorem withTx_tickPending : (s.withTx v).tickPending = s.tickPending := rfl
@[simp] theorem withTx_shutdownReq : (s.withTx v).shutdownReq = s.shutdownReq := rfl
@[simp] theorem withTx_overflow : (s.withTx v).overflow = s.overflow := rfl
@[simp] theorem withTx_q : (s.withTx v).q = s.q := rfl
@[simp] theorem withTx_curJob : (s.withTx v).curJob = s.curJob := rfl
@[simp] theorem withTx_txBuf : (s.withTx v).txBuf = v := rfl
@[simp] theorem withTx_rxBuf : (s.withTx v).rxBuf = s.rxBuf := rfl
@[simp] theorem withTx_rxLimit : (s.withTx v).rxLimit = s.rxLimit := rfl
@[simp] theorem withTx_crc : (s.withTx v).crc = s.crc := rfl
@[simp] theorem withTx_lastPoll : (s.withTx v).lastPoll = s.lastPoll := rfl
@[simp] theorem withTx_lastSync : (s.withTx v).lastSync = s.lastSync := rfl
@[simp] theorem withTx_host : (s.withTx v).host = s.host := rfl
@[simp] theorem withTx_schedule : (s.withTx v).schedule = s.schedule := rfl
@[simp] theorem withTx_reports : (s.withTx v).reports = s.reports := rfl
@[simp] theorem withTx_sent : (s.withTx v).sent = s.sent := rfl
@[simp] theorem withTx_responses : (s.withTx v).responses = s.responses := rfl
end WithTx

section WithRx
variable (s : State) (v : List Byte)
@[simp] theorem withRx_seqState : (s.withRx v).seqState = s.seqState := rfl
@[simp] theorem withRx_tickPending : (s.withRx v).tickPending = s.tickPending := rfl
@[simp] theorem withRx_shutdownReq : (s.withRx v).shutdownReq = s.shutdownReq := rfl
@[simp] theorem withRx_overflow : (s.withRx v).overflow = s.overflow := rfl
@[simp] theorem withRx_q : (s.withRx v).q = s.q := rfl
@[simp] theorem withRx_curJob : (s.withRx v).curJob = s.curJob := rfl
@[simp] theorem withRx_txBuf : (s.withRx v).txBuf = s.txBuf := rfl
@[simp] theorem withRx_rxBuf : (s.withRx v).rxBuf = v := rfl
@[simp] theorem withRx_rxLimit : (s.withRx v).rxLimit = s.rxLimit := rfl
@[simp] theorem withRx_crc : (s.withRx v).crc = s.crc := rfl
@[simp] theorem withRx_lastPoll : (s.withRx v).lastPoll = s.lastPoll := rfl
@[simp] theorem withRx_lastSync : (s.withRx v).lastSync = s.lastSync := rfl
@[simp] theorem withRx_host : (s.withRx v).host = s.host := rfl
@[simp] theorem withRx_schedule : (s.withRx v).schedule = s.schedule := rfl
@[simp] theorem withRx_reports : (s.withRx v).reports = s.reports := rfl
@[simp] theorem withRx_sent : (s.withRx v).sent = s.sent := rfl
@[simp] theorem withRx_responses : (s.withRx v).responses = s.responses := rfl
end WithRx

section WithRxLimit
variable (s : State) (v : Nat)
@[simp] theorem withRxLimit_seqState : (s.withRxLimit v).seqState = s.seqState := rfl
@[simp] theorem withRxLimit_tickPending : (s.withRxLimit v).tickPending = s.tickPending := rfl
@[simp] theorem withRxLimit_shutdownReq : (s.withRxLimit v).shutdownReq = s.shutdownReq := rfl
@[simp] theorem withRxLimit_overflow : (s.withRxLimit v).overflow = s.overflow := rfl
@[simp] theorem withRxLimit_q : (s.withRxLimit v).q = s.q := rfl
@[simp] theorem withRxLimit_curJob : (s.withRxLimit v).curJob = s.curJob := rfl
@[simp] theorem withRxLimit_txBuf : (s.withRxLimit v).txBuf = s.txBuf := rfl
@[simp] theorem withRxLimit_rxBuf : (s.withRxLimit v).rxBuf = s.rxBuf := rfl
@[simp] theorem withRxLimit_rxLimit : (s.withRxLimit v).rxLimit = v := rfl
@[simp] theorem withRxLimit_crc : (s.withRxLimit v).crc = s.crc := rfl
@[simp] theorem withRxLimit_lastPoll : (s.withRxLimit v).lastPoll = s.lastPoll := rfl
@[simp] theorem withRxLimit_lastSync : (s.withRxLimit v).lastSync = s.lastSync := rfl
@[simp] theorem withRxLimit_host : (s.withRxLimit v).host = s.host := rfl
@[simp] theorem withRxLimit_schedule : (s.withRxLimit v).schedule = s.schedule := rfl
@[simp] theorem withRxLimit_reports : (s.withRxLimit v).reports = s.reports := rfl
@[simp] theorem withRxLimit_sent : (s.withRxLimit v).sent = s.sent := rfl
@[simp] theorem withRxLimit_responses : (s.withRxLimit v).responses = s.responses := rfl
end WithRxLimit

section WithCrc
variable (s : State) (v : CrcAcc)
@[simp] theorem withCrc_seqState : (s.withCrc v).seqState = s.seqState := rfl
@[simp] theorem withCrc_tickPending : (s.withCrc v).tickPending = s.tickPending := rfl
@[simp] theorem withCrc_shutdownReq : (s.withCrc v).shutdownReq = s.shutdownReq := rfl
@[simp] theorem withCrc_overflow : (s.withCrc v).overflow = s.overflow := rfl
@[simp] theorem withCrc_q : (s.withCrc v).q = s.q := rfl
@[simp] theorem withCrc_curJob : (s.withCrc v).curJob = s.curJob := rfl
@[simp] theorem withCrc_txBuf : (s.withCrc v).txBuf = s.txBuf := rfl
@[simp] theorem withCrc_rxBuf : (s.withCrc v).rxBuf = s.rxBuf := rfl
@[simp] theorem withCrc_rxLimit : (s.withCrc v).rxLimit = s.rxLimit := rfl
@[simp] theorem withCrc_crc : (s.withCrc v).crc = v := rfl
@[simp] theorem withCrc_lastPoll : (s.withCrc v).lastPoll = s.lastPoll := rfl
@[simp] theorem withCrc_lastSync : (s.withCrc v).lastSync = s.lastSync := rfl
@[simp] theorem withCrc_host : (s.withCrc v).host = s.host := rfl
@[simp] theorem withCrc_schedule : (s.withCrc v).schedule = s.schedule := rfl
@[simp] theorem withCrc_reports : (s.withCrc v).reports = s.reports := rfl
@[simp] theorem withCrc_sent : (s.withCrc v).sent = s.sent := rfl
@[simp] theorem withCrc_responses : (s.withCrc v).responses = s.responses := rfl
end WithCrc

section WithLastPoll
variable (s : State) (v : BitVec 32)
@[simp] theorem withLastPoll_seqState : (s.withLastPoll v).seqState = s.seqState := rfl
@[simp] theorem withLastPoll_tickPending : (s.withLastPoll v).tickPending = s.tickPending := rfl
@[simp] theorem withLastPoll_shutdownReq : (s.withLastPoll v).shutdownReq = s.shutdownReq := rfl
@[simp] theorem withLastPoll_overflow : (s.withLastPoll v).overflow = s.overflow := rfl
@[simp] theorem withLastPoll_q : (s.withLastPoll v).q = s.q := rfl
@[simp] theorem withLastPoll_curJob : (s.withLastPoll v).curJob = s.curJob := rfl
@[simp] theorem withLastPoll_txBuf : (s.withLastPoll v).txBuf = s.txBuf := rfl
@[simp] theorem withLastPoll_rxBuf : (s.withLastPoll v).rxBuf = s.rxBuf := rfl
@[simp] theorem withLastPoll_rxLimit : (s.withLastPoll v).rxLimit = s.rxLimit := rfl
@[simp] theorem withLastPoll_crc : (s.withLastPoll v).crc = s.crc := rfl
@[simp] theorem withLastPoll_lastPoll : (s.withLastPoll v).lastPoll = v := rfl
@[simp] theorem withLastPoll_lastSync : (s.withLastPoll v).lastSync = s.lastSync := rfl
@[simp] theorem withLastPoll_host : (s.withLastPoll v).host = s.host := rfl
@[simp] theorem withLastPoll_schedule : (s.withLastPoll v).schedule = s.schedule := rfl
@[simp] theorem withLastPoll_reports : (s.withLastPoll v).reports = s.reports := rfl
@[simp] theorem withLastPoll_sent : (s.withLastPoll v).sent = s.sent := rfl
@[simp] theorem withLastPoll_responses : (s.withLastPoll v).responses = s.responses := rfl
end WithLastPoll

section WithLastSync
variable (s : State) (v : BitVec 32)
@[simp] theorem withLastSync_seqState : (s.withLastSync v).seqState = s.seqState := rfl
@[simp] theorem withLastSync_tickPending : (s.withLastSync v).tickPending = s.tickPending := rfl
@[simp] theorem withLastSync_shutdownReq : (s.withLastSync v).shutdownReq = s.shutdownReq := rfl
@[simp] theorem withLastSync_overflow : (s.withLastSync v).overflow = s.overflow := rfl
@[simp] theorem withLastSync_q : (s.withLastSync v).q = s.q := rfl
@[simp] theorem withLastSync_curJob : (s.withLastSync v).curJob = s.curJob := rfl
@[simp] theorem withLastSync_txBuf : (s.withLastSync v).txBuf = s.txBuf := rfl
@[simp] theorem withLastSync_rxBuf : (s.withLastSync v).rxBuf = s.rxBuf := rfl
@[simp] theorem withLastSync_rxLimit : (s.withLastSync v).rxLimit = s.rxLimit := rfl
@[simp] theorem withLastSync_crc : (s.withLastSync v).crc = s.crc := rfl
@[simp] theorem withLastSync_lastPoll : (s.withLastSync v).lastPoll = s.lastPoll := rfl
@[simp] theorem withLastSync_lastSync : (s.withLastSync v).lastSync = v := rfl
@[simp] theorem withLastSync_host : (s.withLastSync v).host = s.host := rfl
@[simp] theorem withLastSync_schedule : (s.withLastSync v).schedule = s.schedule := rfl
@[simp] theorem withLastSync_reports : (s.withLastSync v).reports = s.reports := rfl
@[simp] theorem withLastSync_sent : (s.withLastSync v).sent = s.sent := rfl
@[simp] theorem withLastSync_responses : (s.withLastSync v).responses = s.responses := rfl
end WithLastSync

section WithHost
variable (s : State) (v : HostInputs)
@[simp] theorem withHost_seqState : (s.withHost v).seqState = s.seqState := rfl
@[simp] theorem withHost_tickPending : (s.withHost v).tickPending = s.tickPending := rfl
@[simp] theorem withHost_shutdownReq : (s.withHost v).shutdownReq = s.shutdownReq := rfl
@[simp] theorem withHost_overflow : (s.withHost v).overflow = s.overflow := rfl
@[simp] theorem withHost_q : (s.withHost v).q = s.q := rfl
@[simp] theorem withHost_curJob : (s.withHost v).curJob = s.curJob := rfl
@[simp] theorem withHost_txBuf : (s.withHost v).txBuf = s.txBuf := rfl
@[simp] theorem withHost_rxBuf : (s.withHost v).rxBuf = s.rxBuf := rfl
@[simp] theorem withHost_rxLimit : (s.withHost v).rxLimit = s.rxLimit := rfl
@[simp] theorem withHost_crc : (s.withHost v).crc = s.crc := rfl
@[simp] theorem withHost_lastPoll : (s.withHost v).lastPoll = s.lastPoll := rfl
@[simp] theorem withHost_lastSync : (s.withHost v).lastSync = s.lastSync := rfl
@[simp] theorem withHost_host : (s.withHost v).host = v := rfl
@[simp] theorem withHost_schedule : (s.withHost v).schedule = s.schedule := rfl
@[simp] theorem withHost_reports : (s.withHost v).reports = s.reports := rfl
@[simp] theorem withHost_sent : (s.withHost v).sent = s.sent := rfl
@[simp] theorem withHost_responses : (s.withHost v).responses = s.responses := rfl
end WithHost

section WithSchedule
variable (s : State) (v : List Action)
@[simp] theorem withSchedule_seqState : (s.withSchedule v).seqState = s.seqState := rfl
@[simp] theorem withSchedule_tickPending : (s.withSchedule v).tickPending = s.tickPending := rfl
@[simp] theorem withSchedule_shutdownReq : (s.withSchedule v).shutdownReq = s.shutdownReq := rfl
@[simp] theorem withSchedule_overflow : (s.withSchedule v).overflow = s.overflow := rfl
@[simp] theorem withSchedule_q : (s.withSchedule v).q = s.q := rfl
@[simp] theorem withSchedule_curJob : (s.withSchedule v).curJob = s.curJob := rfl
@[simp] theorem withSchedule_txBuf : (s.withSchedule v).txBuf = s.txBuf := rfl
@[simp] theorem withSchedule_rxBuf : (s.withSchedule v).rxBuf = s.rxBuf := rfl
@[simp] theorem withSchedule_rxLimit : (s.withSchedule v).rxLimit = s.rxLimit := rfl
@[simp] theorem withSchedule_crc : (s.withSchedule v).crc = s.crc := rfl
@[simp] theorem withSchedule_lastPoll : (s.withSchedule v).lastPoll = s.lastPoll := rfl
@[simp] theorem withSchedule_lastSync : (s.withSchedule v).lastSync = s.lastSync := rfl
@[simp] theorem withSchedule_host : (s.withSchedule v).host = s.host := rfl
@[simp] theorem withSchedule_schedule : (s.withSchedule v).schedule = v := rfl
@[simp] theorem withSchedule_reports : (s.withSchedule v).reports = s.reports := rfl
@[simp] theorem withSchedule_sent : (s.withSchedule v).sent = s.sent := rfl
@[simp] theorem withSchedule_responses : (s.withSchedule v).responses = s.responses := rfl
end WithSchedule

section AddReport
variable (s : State) (r : Report)
@[simp] theorem addReport_seqState : (s.addReport r).seqState = s.seqState := rfl
@[simp] theorem addReport_tickPending : (s.addReport r).tickPending = s.tickPending := rfl
@[simp] theorem addReport_shutdownReq : (s.addReport r).shutdownReq = s.shutdownReq := rfl
@[simp] theorem addReport_overflow : (s.addReport r).overflow = s.overflow := rfl
@[simp] theorem addReport_q : (s.addReport r).q = s.q := rfl
@[simp] theorem addReport_curJob : (s.addReport r).curJob = s.curJob := rfl
@[simp] theorem addReport_txBuf : (s.addReport r).txBuf = s.txBuf := rfl
@[simp] theorem addReport_rxBuf : (s.addReport r).rxBuf = s.rxBuf := rfl
@[simp] theorem addReport_rxLimit : (s.addReport r).rxLimit = s.rxLimit := rfl
@[simp] theorem addReport_crc : (s.addReport r).crc = s.crc := rfl
@[simp] theorem addReport_lastPoll : (s.addReport r).lastPoll = s.lastPoll := rfl
@[simp] theorem addReport_lastSync : (s.addReport r).lastSync = s.lastSync := rfl
@[simp] theorem addReport_host : (s.addReport r).host = s.host := rfl
@[simp] theorem addReport_schedule : (s.addReport r).schedule = s.schedule := rfl
@[simp] theorem addReport_reports : (s.addReport r).reports = s.reports ++ [r] := rfl
@[simp] theorem addReport_sent : (s.addReport r).sent = s.sent := rfl
@[simp] theorem addReport_responses : (s.addReport r).responses = s.responses := rfl
end AddReport

section AddSent
variable (s : State) (f : List Byte)
@[simp] theorem addSent_seqState : (s.addSent f).seqState = s.seqState := rfl
@[simp] theorem addSent_tickPending : (s.addSent f).tickPending = s.tickPending := rfl
@[simp] theorem addSent_shutdownReq : (s.addSent f).shutdownReq = s.shutdownReq := rfl
@[simp] theorem addSent_overflow : (s.addSent f).overflow = s.overflow := rfl
@[simp] theorem addSent_q : (s.addSent f).q = s.q := rfl
@[simp] theorem addSent_curJob : (s.addSent f).curJob = s.curJob := rfl
@[simp] theorem addSent_txBuf : (s.addSent f).txBuf = s.txBuf := rfl
@[simp] theorem addSent_rxBuf : (s.addSent f).rxBuf = s.rxBuf := rfl
@[simp] theorem addSent_rxLimit : (s.addSent f).rxLimit = s.rxLimit := rfl
@[simp] theorem addSent_crc : (s.addSent f).crc = s.crc := rfl
@[simp] theorem addSent_lastPoll : (s.addSent f).lastPoll = s.lastPoll := rfl
@[simp] theorem addSent_lastSync : (s.addSent f).lastSync = s.lastSync := rfl
@[simp] theorem addSent_host : (s.addSent f).host = s.host := rfl
@[simp] theorem addSent_schedule : (s.addSent f).schedule = s.schedule := rfl
@[simp] theorem addSent_reports : (s.addSent f).reports = s.reports := rfl
@[simp] theorem addSent_sent : (s.addSent f).sent = s.sent ++ [f] := rfl
@[simp] theorem addSent_responses : (s.addSent f).responses = s.responses := rfl
end AddSent

section AddResponse
variable (s : State) (r : EnqueueResponse)
@[simp] theorem addResponse_seqState : (s.addResponse r).seqState = s.seqState := rfl
@[simp] theorem addResponse_tickPending : (s.addResponse r).tickPending = s.tickPending := rfl
@[simp] theorem addResponse_shutdownReq : (s.addResponse r).shutdownReq = s.shutdownReq := rfl
@[simp] theorem addResponse_overflow : (s.addResponse r).overflow = s.overflow := rfl
@[simp] theorem addResponse_q : (s.addResponse r).q = s.q := rfl
@[simp] theorem addResponse_curJob : (s.addResponse r).curJob = s.curJob := rfl
@[simp] theorem addResponse_txBuf : (s.addResponse r).txBuf = s.txBuf := rfl
@[simp] theorem addResponse_rxBuf : (s.addResponse r).rxBuf = s.rxBuf := rfl
@[simp] theorem addResponse_rxLimit : (s.addResponse r).rxLimit = s.rxLimit := rfl
@[simp] theorem addResponse_crc : (s.addResponse r).crc = s.crc := rfl
@[simp] theorem addResponse_lastPoll : (s.addResponse r).lastPoll = s.lastPoll := rfl
@[simp] theorem addResponse_lastSync : (s.addResponse r).lastSync = s.lastSync := rfl
@[simp] theorem addResponse_host : (s.addResponse r).host = s.host := rfl
@[simp] theorem addResponse_schedule : (s.addResponse r).schedule = s.schedule := rfl
@[simp] theorem addResponse_reports : (s.addResponse r).reports = s.reports := rfl
@[simp] theorem addResponse_sent : (s.addResponse r).sent = s.sent := rfl
@[simp] theorem addResponse_responses : (s.addResponse r).responses = s.responses ++ [r] := rfl
end AddResponse

section PushJob
variable (s : State) (w : JobWord)
@[simp] theorem pushJob_seqState : (s.pushJob w).seqState = s.seqState := rfl
@[simp] theorem pushJob_tickPending : (s.pushJob w).tickPending = s.tickPending := rfl
@[simp] theorem pushJob_shutdownReq : (s.pushJob w).shutdownReq = s.shutdownReq := rfl
@[simp] theorem pushJob_overflow : (s.pushJob w).overflow = s.overflow := rfl
@[simp] theorem pushJob_q : (s.pushJob w).q = s.q ++ [w] := rfl
@[simp] theorem pushJob_curJob : (s.pushJob w).curJob = s.curJob := rfl
@[simp] theorem pushJob_txBuf : (s.pushJob w).txBuf = s.txBuf := rfl
@[simp] theorem pushJob_rxBuf : (s.pushJob w).rxBuf = s.rxBuf := rfl
@[simp] theorem pushJob_rxLimit : (s.pushJob w).rxLimit = s.rxLimit := rfl
@[simp] theorem pushJob_crc : (s.pushJob w).crc = s.crc := rfl
@[simp] theorem pushJob_lastPoll : (s.pushJob w).lastPoll = s.lastPoll := rfl
@[simp] theorem pushJob_lastSync : (s.pushJob w).lastSync = s.lastSync := rfl
@[simp] theorem pushJob_host : (s.pushJob w).host = s.host := rfl
@[simp] theorem pushJob_schedule : (s.pushJob w).schedule = s.schedule := rfl
@[simp] theorem pushJob_reports : (s.pushJob w).reports = s.reports := rfl
@[simp] theorem pushJob_sent : (s.pushJob w).sent = s.sent := rfl
@[simp] theorem pushJob_responses : (s.pushJob w).responses = s.responses := rfl
end PushJob

section Views
variable (s : State)
@[simp] theorem qCount_eq : s.qCount = s.q.length := rfl
@[simp] theorem txLen_eq : s.txLen = s.txBuf.length := rfl
@[simp] theorem rxCount_eq : s.rxCount = s.rxBuf.length := rfl
@[simp] theorem txRead_eq (i : Nat) : s.txRead i = s.txBuf[i]? := rfl
@[simp] theorem rxRead_eq (i : Nat) : s.rxRead i = s.rxBuf[i]? := rfl
theorem hasRoom_iff (cfg : Config) : s.hasRoom cfg = true ↔ s.q.length < cfg.queueDepth := decide_eq_true_iff
end Views

end Sys2Proof.Machine.State
end

