-- ==== Sys2Proof/Laws/Ops.lean ====
section
/-! SUPPORT. What each shared operation can do, said once: its cases, and the fields it leaves as they were. -/

namespace Sys2Proof.Machine

/-- RX_BUF has max(P_MAX_REPLY, 7) bytes (10_state.md R32). -/
theorem rxCapacity_eq (cfg : Config) : cfg.rxCapacity = max cfg.maxReply 7 := by
  have ackLen : Config.ackLen = 7 := rfl
  unfold Config.rxCapacity
  omega

/-- The read limit of either class fits RX_BUF (R11). -/
theorem limitOf_le_rxCapacity (cfg : Config) (c : EvalClass) : limitOf cfg c ≤ cfg.rxCapacity := by
  have ackLen : Config.ackLen = 7 := rfl
  rw [rxCapacity_eq]
  cases c <;> simp only [limitOf] <;> omega

/-- Enqueue either appends the word or loses it with OVERFLOW and a report (44_sequencer.md R234). -/
theorem State.enqueue_cases (s : State) (cfg : Config) (w : JobWord) :
    (s.q.length < cfg.queueDepth ∧ s.enqueue cfg w = s.pushJob w) ∨
      (¬ s.q.length < cfg.queueDepth ∧ s.enqueue cfg w = (s.withOverflow true).addReport (overflowReport w)) := by
  by_cases h : s.q.length < cfg.queueDepth
  · exact .inl ⟨h, if_pos ((s.hasRoom_iff cfg).2 h)⟩
  · exact .inr ⟨h, if_neg (fun c => h ((s.hasRoom_iff cfg).1 c))⟩

section EnqueueFrame
variable (s : State) (cfg : Config) (w : JobWord)
@[simp] theorem State.enqueue_seqState : (s.enqueue cfg w).seqState = s.seqState := by rcases s.enqueue_cases cfg w with ⟨-, h⟩ | ⟨-, h⟩ <;> rw [h] <;> rfl
@[simp] theorem State.enqueue_tickPending : (s.enqueue cfg w).tickPending = s.tickPending := by rcases s.enqueue_cases cfg w with ⟨-, h⟩ | ⟨-, h⟩ <;> rw [h] <;> rfl
@[simp] theorem State.enqueue_shutdownReq : (s.enqueue cfg w).shutdownReq = s.shutdownReq := by rcases s.enqueue_cases cfg w with ⟨-, h⟩ | ⟨-, h⟩ <;> rw [h] <;> rfl
@[simp] theorem State.enqueue_curJob : (s.enqueue cfg w).curJob = s.curJob := by rcases s.enqueue_cases cfg w with ⟨-, h⟩ | ⟨-, h⟩ <;> rw [h] <;> rfl
@[simp] theorem State.enqueue_txBuf : (s.enqueue cfg w).txBuf = s.txBuf := by rcases s.enqueue_cases cfg w with ⟨-, h⟩ | ⟨-, h⟩ <;> rw [h] <;> rfl
@[simp] theorem State.enqueue_rxBuf : (s.enqueue cfg w).rxBuf = s.rxBuf := by rcases s.enqueue_cases cfg w with ⟨-, h⟩ | ⟨-, h⟩ <;> rw [h] <;> rfl
@[simp] theorem State.enqueue_rxLimit : (s.enqueue cfg w).rxLimit = s.rxLimit := by rcases s.enqueue_cases cfg w with ⟨-, h⟩ | ⟨-, h⟩ <;> rw [h] <;> rfl
@[simp] theorem State.enqueue_crc : (s.enqueue cfg w).crc = s.crc := by rcases s.enqueue_cases cfg w with ⟨-, h⟩ | ⟨-, h⟩ <;> rw [h] <;> rfl
@[simp] theorem State.enqueue_lastPoll : (s.enqueue cfg w).lastPoll = s.lastPoll := by rcases s.enqueue_cases cfg w with ⟨-, h⟩ | ⟨-, h⟩ <;> rw [h] <;> rfl
@[simp] theorem State.enqueue_lastSync : (s.enqueue cfg w).lastSync = s.lastSync := by rcases s.enqueue_cases cfg w with ⟨-, h⟩ | ⟨-, h⟩ <;> rw [h] <;> rfl
@[simp] theorem State.enqueue_host : (s.enqueue cfg w).host = s.host := by rcases s.enqueue_cases cfg w with ⟨-, h⟩ | ⟨-, h⟩ <;> rw [h] <;> rfl
@[simp] theorem State.enqueue_schedule : (s.enqueue cfg w).schedule = s.schedule := by rcases s.enqueue_cases cfg w with ⟨-, h⟩ | ⟨-, h⟩ <;> rw [h] <;> rfl
@[simp] theorem State.enqueue_sent : (s.enqueue cfg w).sent = s.sent := by rcases s.enqueue_cases cfg w with ⟨-, h⟩ | ⟨-, h⟩ <;> rw [h] <;> rfl
@[simp] theorem State.enqueue_responses : (s.enqueue cfg w).responses = s.responses := by rcases s.enqueue_cases cfg w with ⟨-, h⟩ | ⟨-, h⟩ <;> rw [h] <;> rfl
end EnqueueFrame

/-- A job goes back to the FIFO exactly when it is retried and there is room; without room it is lost (R244, R251). -/
theorem State.retryJob_cases (s : State) (cfg : Config) (k : JobKind) (w : JobWord) (r : JobResult) :
    (retry cfg k r = true ∧ s.retryJob cfg k w r = s.enqueue cfg w) ∨ (retry cfg k r = false ∧ s.retryJob cfg k w r = s) := by
  cases h : retry cfg k r
  · exact .inr ⟨rfl, by simp [State.retryJob, h]⟩
  · exact .inl ⟨rfl, by simp [State.retryJob, h]⟩

section RetryJobFrame
variable (s : State) (cfg : Config) (k : JobKind) (w : JobWord) (r : JobResult)
@[simp] theorem State.retryJob_seqState : (s.retryJob cfg k w r).seqState = s.seqState := by rcases s.retryJob_cases cfg k w r with ⟨-, h⟩ | ⟨-, h⟩ <;> simp [h]
@[simp] theorem State.retryJob_tickPending : (s.retryJob cfg k w r).tickPending = s.tickPending := by rcases s.retryJob_cases cfg k w r with ⟨-, h⟩ | ⟨-, h⟩ <;> simp [h]
@[simp] theorem State.retryJob_shutdownReq : (s.retryJob cfg k w r).shutdownReq = s.shutdownReq := by rcases s.retryJob_cases cfg k w r with ⟨-, h⟩ | ⟨-, h⟩ <;> simp [h]
@[simp] theorem State.retryJob_curJob : (s.retryJob cfg k w r).curJob = s.curJob := by rcases s.retryJob_cases cfg k w r with ⟨-, h⟩ | ⟨-, h⟩ <;> simp [h]
@[simp] theorem State.retryJob_txBuf : (s.retryJob cfg k w r).txBuf = s.txBuf := by rcases s.retryJob_cases cfg k w r with ⟨-, h⟩ | ⟨-, h⟩ <;> simp [h]
@[simp] theorem State.retryJob_rxBuf : (s.retryJob cfg k w r).rxBuf = s.rxBuf := by rcases s.retryJob_cases cfg k w r with ⟨-, h⟩ | ⟨-, h⟩ <;> simp [h]
@[simp] theorem State.retryJob_rxLimit : (s.retryJob cfg k w r).rxLimit = s.rxLimit := by rcases s.retryJob_cases cfg k w r with ⟨-, h⟩ | ⟨-, h⟩ <;> simp [h]
@[simp] theorem State.retryJob_crc : (s.retryJob cfg k w r).crc = s.crc := by rcases s.retryJob_cases cfg k w r with ⟨-, h⟩ | ⟨-, h⟩ <;> simp [h]
@[simp] theorem State.retryJob_lastPoll : (s.retryJob cfg k w r).lastPoll = s.lastPoll := by rcases s.retryJob_cases cfg k w r with ⟨-, h⟩ | ⟨-, h⟩ <;> simp [h]
@[simp] theorem State.retryJob_lastSync : (s.retryJob cfg k w r).lastSync = s.lastSync := by rcases s.retryJob_cases cfg k w r with ⟨-, h⟩ | ⟨-, h⟩ <;> simp [h]
@[simp] theorem State.retryJob_host : (s.retryJob cfg k w r).host = s.host := by rcases s.retryJob_cases cfg k w r with ⟨-, h⟩ | ⟨-, h⟩ <;> simp [h]
@[simp] theorem State.retryJob_schedule : (s.retryJob cfg k w r).schedule = s.schedule := by rcases s.retryJob_cases cfg k w r with ⟨-, h⟩ | ⟨-, h⟩ <;> simp [h]
@[simp] theorem State.retryJob_sent : (s.retryJob cfg k w r).sent = s.sent := by rcases s.retryJob_cases cfg k w r with ⟨-, h⟩ | ⟨-, h⟩ <;> simp [h]
@[simp] theorem State.retryJob_responses : (s.retryJob cfg k w r).responses = s.responses := by rcases s.retryJob_cases cfg k w r with ⟨-, h⟩ | ⟨-, h⟩ <;> simp [h]
end RetryJobFrame

section EndJobFrame
variable (s : State) (cfg : Config) (k : JobKind) (w : JobWord) (r : JobResult)
@[simp] theorem State.endJob_tickPending : (s.endJob cfg k w r).tickPending = s.tickPending := by simp [State.endJob]
@[simp] theorem State.endJob_shutdownReq : (s.endJob cfg k w r).shutdownReq = s.shutdownReq := by simp [State.endJob]
@[simp] theorem State.endJob_txBuf : (s.endJob cfg k w r).txBuf = s.txBuf := by simp [State.endJob]
@[simp] theorem State.endJob_rxBuf : (s.endJob cfg k w r).rxBuf = s.rxBuf := by simp [State.endJob]
@[simp] theorem State.endJob_rxLimit : (s.endJob cfg k w r).rxLimit = s.rxLimit := by simp [State.endJob]
@[simp] theorem State.endJob_crc : (s.endJob cfg k w r).crc = s.crc := by simp [State.endJob]
@[simp] theorem State.endJob_lastPoll : (s.endJob cfg k w r).lastPoll = s.lastPoll := by simp [State.endJob]
@[simp] theorem State.endJob_lastSync : (s.endJob cfg k w r).lastSync = s.lastSync := by simp [State.endJob]
@[simp] theorem State.endJob_host : (s.endJob cfg k w r).host = s.host := by simp [State.endJob]
@[simp] theorem State.endJob_schedule : (s.endJob cfg k w r).schedule = s.schedule := by simp [State.endJob]
@[simp] theorem State.endJob_sent : (s.endJob cfg k w r).sent = s.sent := by simp [State.endJob]
@[simp] theorem State.endJob_responses : (s.endJob cfg k w r).responses = s.responses := by simp [State.endJob]
end EndJobFrame

@[simp] theorem State.endJob_curJob (s : State) (cfg : Config) (k : JobKind) (w : JobWord) (r : JobResult) :
    (s.endJob cfg k w r).curJob = none := rfl

@[simp] theorem State.endJob_seqState (s : State) (cfg : Config) (k : JobKind) (w : JobWord) (r : JobResult) :
    (s.endJob cfg k w r).seqState = .sweep := rfl

/-- How a job ends (60_exceptions.md R275): its report, then nothing, the word at the tail, or the loss report. -/
theorem State.endJob_cases (s : State) (cfg : Config) (k : JobKind) (w : JobWord) (r : JobResult) :
    (retry cfg k r = false ∧ (s.endJob cfg k w r).q = s.q ∧ (s.endJob cfg k w r).overflow = s.overflow ∧
        (s.endJob cfg k w r).reports = s.reports ++ [jobReport k w r false]) ∨
      (retry cfg k r = true ∧ s.q.length < cfg.queueDepth ∧ (s.endJob cfg k w r).q = s.q ++ [w] ∧
        (s.endJob cfg k w r).overflow = s.overflow ∧
        (s.endJob cfg k w r).reports = s.reports ++ [jobReport k w r true]) ∨
      (retry cfg k r = true ∧ ¬ s.q.length < cfg.queueDepth ∧ (s.endJob cfg k w r).q = s.q ∧
        (s.endJob cfg k w r).overflow = true ∧
        (s.endJob cfg k w r).reports = s.reports ++ [jobReport k w r false, overflowReport w]) := by
  cases hr : retry cfg k r
  · exact .inl ⟨rfl, by simp [State.endJob, State.retryJob, State.requeues, hr]⟩
  · by_cases hq : s.q.length < cfg.queueDepth
    · refine .inr (.inl ⟨rfl, hq, ?_⟩)
      simp [State.endJob, State.retryJob, State.requeues, State.enqueue, State.hasRoom, hr, hq]
    · refine .inr (.inr ⟨rfl, hq, ?_⟩)
      simp [State.endJob, State.retryJob, State.requeues, State.enqueue, State.hasRoom, hr, hq]

section BackToIdleFrame
variable (s : State)
@[simp] theorem State.backToIdle_tickPending : s.backToIdle.tickPending = s.tickPending := rfl
@[simp] theorem State.backToIdle_shutdownReq : s.backToIdle.shutdownReq = s.shutdownReq := rfl
@[simp] theorem State.backToIdle_overflow : s.backToIdle.overflow = s.overflow := rfl
@[simp] theorem State.backToIdle_q : s.backToIdle.q = s.q := rfl
@[simp] theorem State.backToIdle_curJob : s.backToIdle.curJob = s.curJob := rfl
@[simp] theorem State.backToIdle_txBuf : s.backToIdle.txBuf = s.txBuf := rfl
@[simp] theorem State.backToIdle_rxBuf : s.backToIdle.rxBuf = s.rxBuf := rfl
@[simp] theorem State.backToIdle_rxLimit : s.backToIdle.rxLimit = s.rxLimit := rfl
@[simp] theorem State.backToIdle_crc : s.backToIdle.crc = s.crc := rfl
@[simp] theorem State.backToIdle_lastPoll : s.backToIdle.lastPoll = s.lastPoll := rfl
@[simp] theorem State.backToIdle_lastSync : s.backToIdle.lastSync = s.lastSync := rfl
@[simp] theorem State.backToIdle_host : s.backToIdle.host = s.host := rfl
@[simp] theorem State.backToIdle_schedule : s.backToIdle.schedule = s.schedule := rfl
@[simp] theorem State.backToIdle_reports : s.backToIdle.reports = s.reports := rfl
@[simp] theorem State.backToIdle_sent : s.backToIdle.sent = s.sent := rfl
@[simp] theorem State.backToIdle_responses : s.backToIdle.responses = s.responses := rfl
end BackToIdleFrame

@[simp] theorem State.backToIdle_seqState (s : State) : s.backToIdle.seqState = .idle := rfl

section TickFrame
variable (s : State)
@[simp] theorem State.tick_seqState : s.tick.seqState = s.seqState := by unfold State.tick; split <;> rfl
@[simp] theorem State.tick_shutdownReq : s.tick.shutdownReq = s.shutdownReq := by unfold State.tick; split <;> rfl
@[simp] theorem State.tick_overflow : s.tick.overflow = s.overflow := by unfold State.tick; split <;> rfl
@[simp] theorem State.tick_q : s.tick.q = s.q := by unfold State.tick; split <;> rfl
@[simp] theorem State.tick_curJob : s.tick.curJob = s.curJob := by unfold State.tick; split <;> rfl
@[simp] theorem State.tick_txBuf : s.tick.txBuf = s.txBuf := by unfold State.tick; split <;> rfl
@[simp] theorem State.tick_rxBuf : s.tick.rxBuf = s.rxBuf := by unfold State.tick; split <;> rfl
@[simp] theorem State.tick_rxLimit : s.tick.rxLimit = s.rxLimit := by unfold State.tick; split <;> rfl
@[simp] theorem State.tick_crc : s.tick.crc = s.crc := by unfold State.tick; split <;> rfl
@[simp] theorem State.tick_lastPoll : s.tick.lastPoll = s.lastPoll := by unfold State.tick; split <;> rfl
@[simp] theorem State.tick_lastSync : s.tick.lastSync = s.lastSync := by unfold State.tick; split <;> rfl
@[simp] theorem State.tick_host : s.tick.host = s.host := by unfold State.tick; split <;> rfl
@[simp] theorem State.tick_schedule : s.tick.schedule = s.schedule := by unfold State.tick; split <;> rfl
@[simp] theorem State.tick_reports : s.tick.reports = s.reports := by unfold State.tick; split <;> rfl
@[simp] theorem State.tick_sent : s.tick.sent = s.sent := by unfold State.tick; split <;> rfl
@[simp] theorem State.tick_responses : s.tick.responses = s.responses := by unfold State.tick; split <;> rfl
end TickFrame

section ShutdownFrame
variable (s : State)
@[simp] theorem State.shutdown_seqState : s.shutdown.seqState = s.seqState := rfl
@[simp] theorem State.shutdown_tickPending : s.shutdown.tickPending = s.tickPending := rfl
@[simp] theorem State.shutdown_overflow : s.shutdown.overflow = s.overflow := rfl
@[simp] theorem State.shutdown_q : s.shutdown.q = s.q := rfl
@[simp] theorem State.shutdown_curJob : s.shutdown.curJob = s.curJob := rfl
@[simp] theorem State.shutdown_txBuf : s.shutdown.txBuf = s.txBuf := rfl
@[simp] theorem State.shutdown_rxBuf : s.shutdown.rxBuf = s.rxBuf := rfl
@[simp] theorem State.shutdown_rxLimit : s.shutdown.rxLimit = s.rxLimit := rfl
@[simp] theorem State.shutdown_crc : s.shutdown.crc = s.crc := rfl
@[simp] theorem State.shutdown_lastPoll : s.shutdown.lastPoll = s.lastPoll := rfl
@[simp] theorem State.shutdown_lastSync : s.shutdown.lastSync = s.lastSync := rfl
@[simp] theorem State.shutdown_host : s.shutdown.host = s.host := rfl
@[simp] theorem State.shutdown_schedule : s.shutdown.schedule = s.schedule := rfl
@[simp] theorem State.shutdown_reports : s.shutdown.reports = s.reports := rfl
@[simp] theorem State.shutdown_sent : s.shutdown.sent = s.sent := rfl
@[simp] theorem State.shutdown_responses : s.shutdown.responses = s.responses := rfl
end ShutdownFrame

section LoadRequestFrame
variable (s : State) (cfg : Config) (c : EvalClass) (d : Byte) (a e : HalfWord) (p : Option (List Byte))
@[simp] theorem State.loadRequest_seqState : (s.loadRequest cfg c d a e p).seqState = s.seqState := rfl
@[simp] theorem State.loadRequest_tickPending : (s.loadRequest cfg c d a e p).tickPending = s.tickPending := rfl
@[simp] theorem State.loadRequest_shutdownReq : (s.loadRequest cfg c d a e p).shutdownReq = s.shutdownReq := rfl
@[simp] theorem State.loadRequest_overflow : (s.loadRequest cfg c d a e p).overflow = s.overflow := rfl
@[simp] theorem State.loadRequest_q : (s.loadRequest cfg c d a e p).q = s.q := rfl
@[simp] theorem State.loadRequest_curJob : (s.loadRequest cfg c d a e p).curJob = s.curJob := rfl
@[simp] theorem State.loadRequest_rxBuf : (s.loadRequest cfg c d a e p).rxBuf = s.rxBuf := rfl
@[simp] theorem State.loadRequest_lastPoll : (s.loadRequest cfg c d a e p).lastPoll = s.lastPoll := rfl
@[simp] theorem State.loadRequest_lastSync : (s.loadRequest cfg c d a e p).lastSync = s.lastSync := rfl
@[simp] theorem State.loadRequest_host : (s.loadRequest cfg c d a e p).host = s.host := rfl
@[simp] theorem State.loadRequest_schedule : (s.loadRequest cfg c d a e p).schedule = s.schedule := rfl
@[simp] theorem State.loadRequest_reports : (s.loadRequest cfg c d a e p).reports = s.reports := rfl
@[simp] theorem State.loadRequest_sent : (s.loadRequest cfg c d a e p).sent = s.sent := rfl
@[simp] theorem State.loadRequest_responses : (s.loadRequest cfg c d a e p).responses = s.responses := rfl
end LoadRequestFrame

section LoadRequest
variable (s : State) (cfg : Config) (c : EvalClass) (d : Byte) (a e : HalfWord) (p : Option (List Byte))
@[simp] theorem State.loadRequest_txBuf : (s.loadRequest cfg c d a e p).txBuf = buildFrame d a e p := rfl
@[simp] theorem State.loadRequest_crc : (s.loadRequest cfg c d a e p).crc = computeCRC (requestBody d a e p) := rfl
@[simp] theorem State.loadRequest_rxLimit : (s.loadRequest cfg c d a e p).rxLimit = limitOf cfg c := rfl
end LoadRequest

section SendFrameFrame
variable (s : State)
@[simp] theorem State.sendFrame_tickPending : s.sendFrame.tickPending = s.tickPending := rfl
@[simp] theorem State.sendFrame_shutdownReq : s.sendFrame.shutdownReq = s.shutdownReq := rfl
@[simp] theorem State.sendFrame_overflow : s.sendFrame.overflow = s.overflow := rfl
@[simp] theorem State.sendFrame_q : s.sendFrame.q = s.q := rfl
@[simp] theorem State.sendFrame_curJob : s.sendFrame.curJob = s.curJob := rfl
@[simp] theorem State.sendFrame_txBuf : s.sendFrame.txBuf = s.txBuf := rfl
@[simp] theorem State.sendFrame_rxLimit : s.sendFrame.rxLimit = s.rxLimit := rfl
@[simp] theorem State.sendFrame_crc : s.sendFrame.crc = s.crc := rfl
@[simp] theorem State.sendFrame_lastPoll : s.sendFrame.lastPoll = s.lastPoll := rfl
@[simp] theorem State.sendFrame_lastSync : s.sendFrame.lastSync = s.lastSync := rfl
@[simp] theorem State.sendFrame_host : s.sendFrame.host = s.host := rfl
@[simp] theorem State.sendFrame_schedule : s.sendFrame.schedule = s.schedule := rfl
@[simp] theorem State.sendFrame_reports : s.sendFrame.reports = s.reports := rfl
@[simp] theorem State.sendFrame_responses : s.sendFrame.responses = s.responses := rfl
end SendFrameFrame

section SendFrame
variable (s : State)
@[simp] theorem State.sendFrame_seqState : s.sendFrame.seqState = .receive := rfl
@[simp] theorem State.sendFrame_rxBuf : s.sendFrame.rxBuf = [] := rfl
@[simp] theorem State.sendFrame_sent : s.sendFrame.sent = s.sent ++ [s.txBuf] := rfl
end SendFrame

theorem State.enqueueAll_nil (s : State) (cfg : Config) : s.enqueueAll cfg [] = s := rfl

theorem State.enqueueAll_cons (s : State) (cfg : Config) (w : JobWord) (ws : List JobWord) :
    s.enqueueAll cfg (w :: ws) = (s.enqueue cfg w).enqueueAll cfg ws := rfl

section EnqueueAllFrame
@[simp] theorem State.enqueueAll_seqState (cfg : Config) (ws : List JobWord) (s : State) : (s.enqueueAll cfg ws).seqState = s.seqState := by
  induction ws generalizing s with
  | nil => rfl
  | cons w ws ih => rw [s.enqueueAll_cons, ih, s.enqueue_seqState]
@[simp] theorem State.enqueueAll_tickPending (cfg : Config) (ws : List JobWord) (s : State) : (s.enqueueAll cfg ws).tickPending = s.tickPending := by
  induction ws generalizing s with
  | nil => rfl
  | cons w ws ih => rw [s.enqueueAll_cons, ih, s.enqueue_tickPending]
@[simp] theorem State.enqueueAll_shutdownReq (cfg : Config) (ws : List JobWord) (s : State) : (s.enqueueAll cfg ws).shutdownReq = s.shutdownReq := by
  induction ws generalizing s with
  | nil => rfl
  | cons w ws ih => rw [s.enqueueAll_cons, ih, s.enqueue_shutdownReq]
@[simp] theorem State.enqueueAll_curJob (cfg : Config) (ws : List JobWord) (s : State) : (s.enqueueAll cfg ws).curJob = s.curJob := by
  induction ws generalizing s with
  | nil => rfl
  | cons w ws ih => rw [s.enqueueAll_cons, ih, s.enqueue_curJob]
@[simp] theorem State.enqueueAll_txBuf (cfg : Config) (ws : List JobWord) (s : State) : (s.enqueueAll cfg ws).txBuf = s.txBuf := by
  induction ws generalizing s with
  | nil => rfl
  | cons w ws ih => rw [s.enqueueAll_cons, ih, s.enqueue_txBuf]
@[simp] theorem State.enqueueAll_rxBuf (cfg : Config) (ws : List JobWord) (s : State) : (s.enqueueAll cfg ws).rxBuf = s.rxBuf := by
  induction ws generalizing s with
  | nil => rfl
  | cons w ws ih => rw [s.enqueueAll_cons, ih, s.enqueue_rxBuf]
@[simp] theorem State.enqueueAll_rxLimit (cfg : Config) (ws : List JobWord) (s : State) : (s.enqueueAll cfg ws).rxLimit = s.rxLimit := by
  induction ws generalizing s with
  | nil => rfl
  | cons w ws ih => rw [s.enqueueAll_cons, ih, s.enqueue_rxLimit]
@[simp] theorem State.enqueueAll_crc (cfg : Config) (ws : List JobWord) (s : State) : (s.enqueueAll cfg ws).crc = s.crc := by
  induction ws generalizing s with
  | nil => rfl
  | cons w ws ih => rw [s.enqueueAll_cons, ih, s.enqueue_crc]
@[simp] theorem State.enqueueAll_lastPoll (cfg : Config) (ws : List JobWord) (s : State) : (s.enqueueAll cfg ws).lastPoll = s.lastPoll := by
  induction ws generalizing s with
  | nil => rfl
  | cons w ws ih => rw [s.enqueueAll_cons, ih, s.enqueue_lastPoll]
@[simp] theorem State.enqueueAll_lastSync (cfg : Config) (ws : List JobWord) (s : State) : (s.enqueueAll cfg ws).lastSync = s.lastSync := by
  induction ws generalizing s with
  | nil => rfl
  | cons w ws ih => rw [s.enqueueAll_cons, ih, s.enqueue_lastSync]
@[simp] theorem State.enqueueAll_host (cfg : Config) (ws : List JobWord) (s : State) : (s.enqueueAll cfg ws).host = s.host := by
  induction ws generalizing s with
  | nil => rfl
  | cons w ws ih => rw [s.enqueueAll_cons, ih, s.enqueue_host]
@[simp] theorem State.enqueueAll_schedule (cfg : Config) (ws : List JobWord) (s : State) : (s.enqueueAll cfg ws).schedule = s.schedule := by
  induction ws generalizing s with
  | nil => rfl
  | cons w ws ih => rw [s.enqueueAll_cons, ih, s.enqueue_schedule]
@[simp] theorem State.enqueueAll_sent (cfg : Config) (ws : List JobWord) (s : State) : (s.enqueueAll cfg ws).sent = s.sent := by
  induction ws generalizing s with
  | nil => rfl
  | cons w ws ih => rw [s.enqueueAll_cons, ih, s.enqueue_sent]
@[simp] theorem State.enqueueAll_responses (cfg : Config) (ws : List JobWord) (s : State) : (s.enqueueAll cfg ws).responses = s.responses := by
  induction ws generalizing s with
  | nil => rfl
  | cons w ws ih => rw [s.enqueueAll_cons, ih, s.enqueue_responses]
end EnqueueAllFrame

/-- Enqueue of several words: those that find room go to the tail in order, the rest are lost with a report each (R234). -/
theorem State.enqueueAll_eq (cfg : Config) (ws : List JobWord) (s : State) :
    s.enqueueAll cfg ws =
      { s with
        q := s.q ++ ws.take (cfg.queueDepth - s.q.length)
        overflow := s.overflow || decide (cfg.queueDepth - s.q.length < ws.length)
        reports := s.reports ++ (ws.drop (cfg.queueDepth - s.q.length)).map overflowReport } := by
  induction ws generalizing s with
  | nil => simp [s.enqueueAll_nil]
  | cons w ws ih =>
    rw [s.enqueueAll_cons, ih]
    rcases s.enqueue_cases cfg w with ⟨h, e⟩ | ⟨h, e⟩ <;> rw [e]
    · obtain ⟨n, hn⟩ : ∃ n, cfg.queueDepth - s.q.length = n + 1 := ⟨cfg.queueDepth - s.q.length - 1, by omega⟩
      have hn' : cfg.queueDepth - (s.q.length + 1) = n := by omega
      simp [State.pushJob, State.withQueue, hn, hn']
    · have hn : cfg.queueDepth - s.q.length = 0 := by omega
      simp [State.withOverflow, State.addReport, hn]

/-- Enqueueing two lists is enqueueing the one after the other. -/
theorem State.enqueueAll_append (cfg : Config) (a b : List JobWord) (s : State) :
    s.enqueueAll cfg (a ++ b) = (s.enqueueAll cfg a).enqueueAll cfg b := by
  simp [State.enqueueAll]

/-- The poll sweep sets LAST_POLL and enqueues, or does nothing (R247). -/
theorem State.pollSweep_cases (s : State) (cfg : Config) :
    (intervalExceeded s.host.now s.lastPoll s.host.pollInterval = true ∧
        (s.pollSweep cfg) = (s.withLastPoll s.host.now).enqueueAll cfg ((knownAddresses s.host.known).map pollWord)) ∨
      (intervalExceeded s.host.now s.lastPoll s.host.pollInterval = false ∧ (s.pollSweep cfg) = s) := by
  cases h : intervalExceeded s.host.now s.lastPoll s.host.pollInterval
  · exact .inr ⟨rfl, by simp [State.pollSweep, h]⟩
  · exact .inl ⟨rfl, by simp [State.pollSweep, h]⟩

/-- The sync sweep sets LAST_SYNC and enqueues, or does nothing (R248). -/
theorem State.syncSweep_cases (s : State) (cfg : Config) :
    (intervalExceeded s.host.now s.lastSync s.host.syncInterval = true ∧
        (s.syncSweep cfg) = (s.withLastSync s.host.now).enqueueAll cfg ((knownAddresses s.host.known).map syncWord)) ∨
      (intervalExceeded s.host.now s.lastSync s.host.syncInterval = false ∧ (s.syncSweep cfg) = s) := by
  cases h : intervalExceeded s.host.now s.lastSync s.host.syncInterval
  · exact .inr ⟨rfl, by simp [State.syncSweep, h]⟩
  · exact .inl ⟨rfl, by simp [State.syncSweep, h]⟩

section PollSweepFrame
variable (s : State) (cfg : Config)
@[simp] theorem State.pollSweep_seqState : (s.pollSweep cfg).seqState = s.seqState := by rcases s.pollSweep_cases cfg with ⟨-, h⟩ | ⟨-, h⟩ <;> simp [h]
@[simp] theorem State.pollSweep_tickPending : (s.pollSweep cfg).tickPending = s.tickPending := by rcases s.pollSweep_cases cfg with ⟨-, h⟩ | ⟨-, h⟩ <;> simp [h]
@[simp] theorem State.pollSweep_shutdownReq : (s.pollSweep cfg).shutdownReq = s.shutdownReq := by rcases s.pollSweep_cases cfg with ⟨-, h⟩ | ⟨-, h⟩ <;> simp [h]
@[simp] theorem State.pollSweep_curJob : (s.pollSweep cfg).curJob = s.curJob := by rcases s.pollSweep_cases cfg with ⟨-, h⟩ | ⟨-, h⟩ <;> simp [h]
@[simp] theorem State.pollSweep_txBuf : (s.pollSweep cfg).txBuf = s.txBuf := by rcases s.pollSweep_cases cfg with ⟨-, h⟩ | ⟨-, h⟩ <;> simp [h]
@[simp] theorem State.pollSweep_rxBuf : (s.pollSweep cfg).rxBuf = s.rxBuf := by rcases s.pollSweep_cases cfg with ⟨-, h⟩ | ⟨-, h⟩ <;> simp [h]
@[simp] theorem State.pollSweep_rxLimit : (s.pollSweep cfg).rxLimit = s.rxLimit := by rcases s.pollSweep_cases cfg with ⟨-, h⟩ | ⟨-, h⟩ <;> simp [h]
@[simp] theorem State.pollSweep_crc : (s.pollSweep cfg).crc = s.crc := by rcases s.pollSweep_cases cfg with ⟨-, h⟩ | ⟨-, h⟩ <;> simp [h]
@[simp] theorem State.pollSweep_lastSync : (s.pollSweep cfg).lastSync = s.lastSync := by rcases s.pollSweep_cases cfg with ⟨-, h⟩ | ⟨-, h⟩ <;> simp [h]
@[simp] theorem State.pollSweep_host : (s.pollSweep cfg).host = s.host := by rcases s.pollSweep_cases cfg with ⟨-, h⟩ | ⟨-, h⟩ <;> simp [h]
@[simp] theorem State.pollSweep_schedule : (s.pollSweep cfg).schedule = s.schedule := by rcases s.pollSweep_cases cfg with ⟨-, h⟩ | ⟨-, h⟩ <;> simp [h]
@[simp] theorem State.pollSweep_sent : (s.pollSweep cfg).sent = s.sent := by rcases s.pollSweep_cases cfg with ⟨-, h⟩ | ⟨-, h⟩ <;> simp [h]
@[simp] theorem State.pollSweep_responses : (s.pollSweep cfg).responses = s.responses := by rcases s.pollSweep_cases cfg with ⟨-, h⟩ | ⟨-, h⟩ <;> simp [h]
end PollSweepFrame

section SyncSweepFrame
variable (s : State) (cfg : Config)
@[simp] theorem State.syncSweep_seqState : (s.syncSweep cfg).seqState = s.seqState := by rcases s.syncSweep_cases cfg with ⟨-, h⟩ | ⟨-, h⟩ <;> simp [h]
@[simp] theorem State.syncSweep_tickPending : (s.syncSweep cfg).tickPending = s.tickPending := by rcases s.syncSweep_cases cfg with ⟨-, h⟩ | ⟨-, h⟩ <;> simp [h]
@[simp] theorem State.syncSweep_shutdownReq : (s.syncSweep cfg).shutdownReq = s.shutdownReq := by rcases s.syncSweep_cases cfg with ⟨-, h⟩ | ⟨-, h⟩ <;> simp [h]
@[simp] theorem State.syncSweep_curJob : (s.syncSweep cfg).curJob = s.curJob := by rcases s.syncSweep_cases cfg with ⟨-, h⟩ | ⟨-, h⟩ <;> simp [h]
@[simp] theorem State.syncSweep_txBuf : (s.syncSweep cfg).txBuf = s.txBuf := by rcases s.syncSweep_cases cfg with ⟨-, h⟩ | ⟨-, h⟩ <;> simp [h]
@[simp] theorem State.syncSweep_rxBuf : (s.syncSweep cfg).rxBuf = s.rxBuf := by rcases s.syncSweep_cases cfg with ⟨-, h⟩ | ⟨-, h⟩ <;> simp [h]
@[simp] theorem State.syncSweep_rxLimit : (s.syncSweep cfg).rxLimit = s.rxLimit := by rcases s.syncSweep_cases cfg with ⟨-, h⟩ | ⟨-, h⟩ <;> simp [h]
@[simp] theorem State.syncSweep_crc : (s.syncSweep cfg).crc = s.crc := by rcases s.syncSweep_cases cfg with ⟨-, h⟩ | ⟨-, h⟩ <;> simp [h]
@[simp] theorem State.syncSweep_lastPoll : (s.syncSweep cfg).lastPoll = s.lastPoll := by rcases s.syncSweep_cases cfg with ⟨-, h⟩ | ⟨-, h⟩ <;> simp [h]
@[simp] theorem State.syncSweep_host : (s.syncSweep cfg).host = s.host := by rcases s.syncSweep_cases cfg with ⟨-, h⟩ | ⟨-, h⟩ <;> simp [h]
@[simp] theorem State.syncSweep_schedule : (s.syncSweep cfg).schedule = s.schedule := by rcases s.syncSweep_cases cfg with ⟨-, h⟩ | ⟨-, h⟩ <;> simp [h]
@[simp] theorem State.syncSweep_sent : (s.syncSweep cfg).sent = s.sent := by rcases s.syncSweep_cases cfg with ⟨-, h⟩ | ⟨-, h⟩ <;> simp [h]
@[simp] theorem State.syncSweep_responses : (s.syncSweep cfg).responses = s.responses := by rcases s.syncSweep_cases cfg with ⟨-, h⟩ | ⟨-, h⟩ <;> simp [h]
end SyncSweepFrame

section SweepStepFrame
variable (s : State) (cfg : Config)
@[simp] theorem State.sweepStep_tickPending : (s.sweepStep cfg).tickPending = s.tickPending := by simp [State.sweepStep]
@[simp] theorem State.sweepStep_shutdownReq : (s.sweepStep cfg).shutdownReq = s.shutdownReq := by simp [State.sweepStep]
@[simp] theorem State.sweepStep_curJob : (s.sweepStep cfg).curJob = s.curJob := by simp [State.sweepStep]
@[simp] theorem State.sweepStep_txBuf : (s.sweepStep cfg).txBuf = s.txBuf := by simp [State.sweepStep]
@[simp] theorem State.sweepStep_rxBuf : (s.sweepStep cfg).rxBuf = s.rxBuf := by simp [State.sweepStep]
@[simp] theorem State.sweepStep_rxLimit : (s.sweepStep cfg).rxLimit = s.rxLimit := by simp [State.sweepStep]
@[simp] theorem State.sweepStep_crc : (s.sweepStep cfg).crc = s.crc := by simp [State.sweepStep]
@[simp] theorem State.sweepStep_host : (s.sweepStep cfg).host = s.host := by simp [State.sweepStep]
@[simp] theorem State.sweepStep_schedule : (s.sweepStep cfg).schedule = s.schedule := by simp [State.sweepStep]
@[simp] theorem State.sweepStep_sent : (s.sweepStep cfg).sent = s.sent := by simp [State.sweepStep]
@[simp] theorem State.sweepStep_responses : (s.sweepStep cfg).responses = s.responses := by simp [State.sweepStep]
end SweepStepFrame

@[simp] theorem State.sweepStep_seqState (s : State) (cfg : Config) : (s.sweepStep cfg).seqState = .idle := rfl

/-- The words a SWEEP step enqueues are those of the poll sweep, then those of the sync sweep; each sweep that runs sets its
time to NOW (R245 to R248). -/
theorem State.sweepStep_eq (s : State) (cfg : Config) :
    (s.sweepStep cfg) =
      ({ s with
        lastPoll := if intervalExceeded s.host.now s.lastPoll s.host.pollInterval then s.host.now else s.lastPoll
        lastSync := if intervalExceeded s.host.now s.lastSync s.host.syncInterval then s.host.now else s.lastSync
        : State }.enqueueAll cfg
          ((if intervalExceeded s.host.now s.lastPoll s.host.pollInterval then
              (knownAddresses s.host.known).map pollWord else []) ++
            (if intervalExceeded s.host.now s.lastSync s.host.syncInterval then
              (knownAddresses s.host.known).map syncWord else []))).backToIdle := by
  rw [State.enqueueAll_append]
  rcases s.pollSweep_cases cfg with ⟨hp, ep⟩ | ⟨hp, ep⟩ <;>
    rcases (s.pollSweep cfg).syncSweep_cases cfg with ⟨hs, es⟩ | ⟨hs, es⟩ <;>
    rw [State.sweepStep, es, ep] <;>
    simp only [State.pollSweep_host, State.pollSweep_lastSync] at hs <;>
    simp [hp, hs, State.enqueueAll_eq, State.withLastPoll, State.withLastSync]

/-- The IDLE step: STOPPED, a popped job, an empty tick, or nothing (R230). -/
theorem State.idleStep_cases (s : State) :
    (s.shutdownReq = true ∧ s.idleStep = (s.withTick false).withSeq .stopped) ∨
      (s.shutdownReq = false ∧ s.tickPending = true ∧ ∃ w rest, s.q = w :: rest ∧
        s.idleStep = (((s.withTick false).withQueue rest).withCurJob (some w)).withSeq .exec) ∨
      (s.shutdownReq = false ∧ s.tickPending = true ∧ s.q = [] ∧ s.idleStep = (s.withTick false).withSeq .sweep) ∨
      (s.shutdownReq = false ∧ s.tickPending = false ∧ s.idleStep = s) := by
  cases hs : s.shutdownReq
  · cases ht : s.tickPending
    · simp [State.idleStep, hs, ht]
    · cases hq : s.q with
      | nil => simp [State.idleStep, hs, ht, hq]
      | cons w rest => simp [State.idleStep, hs, ht, hq]
  · simp [State.idleStep, hs]

section IdleStepFrame
variable (s : State)
@[simp] theorem State.idleStep_shutdownReq : s.idleStep.shutdownReq = s.shutdownReq := by
  rcases s.idleStep_cases with ⟨-, h⟩ | ⟨-, -, w, r, -, h⟩ | ⟨-, -, -, h⟩ | ⟨-, -, h⟩ <;> rw [h] <;> rfl
@[simp] theorem State.idleStep_overflow : s.idleStep.overflow = s.overflow := by
  rcases s.idleStep_cases with ⟨-, h⟩ | ⟨-, -, w, r, -, h⟩ | ⟨-, -, -, h⟩ | ⟨-, -, h⟩ <;> rw [h] <;> rfl
@[simp] theorem State.idleStep_txBuf : s.idleStep.txBuf = s.txBuf := by
  rcases s.idleStep_cases with ⟨-, h⟩ | ⟨-, -, w, r, -, h⟩ | ⟨-, -, -, h⟩ | ⟨-, -, h⟩ <;> rw [h] <;> rfl
@[simp] theorem State.idleStep_rxBuf : s.idleStep.rxBuf = s.rxBuf := by
  rcases s.idleStep_cases with ⟨-, h⟩ | ⟨-, -, w, r, -, h⟩ | ⟨-, -, -, h⟩ | ⟨-, -, h⟩ <;> rw [h] <;> rfl
@[simp] theorem State.idleStep_rxLimit : s.idleStep.rxLimit = s.rxLimit := by
  rcases s.idleStep_cases with ⟨-, h⟩ | ⟨-, -, w, r, -, h⟩ | ⟨-, -, -, h⟩ | ⟨-, -, h⟩ <;> rw [h] <;> rfl
@[simp] theorem State.idleStep_crc : s.idleStep.crc = s.crc := by
  rcases s.idleStep_cases with ⟨-, h⟩ | ⟨-, -, w, r, -, h⟩ | ⟨-, -, -, h⟩ | ⟨-, -, h⟩ <;> rw [h] <;> rfl
@[simp] theorem State.idleStep_lastPoll : s.idleStep.lastPoll = s.lastPoll := by
  rcases s.idleStep_cases with ⟨-, h⟩ | ⟨-, -, w, r, -, h⟩ | ⟨-, -, -, h⟩ | ⟨-, -, h⟩ <;> rw [h] <;> rfl
@[simp] theorem State.idleStep_lastSync : s.idleStep.lastSync = s.lastSync := by
  rcases s.idleStep_cases with ⟨-, h⟩ | ⟨-, -, w, r, -, h⟩ | ⟨-, -, -, h⟩ | ⟨-, -, h⟩ <;> rw [h] <;> rfl
@[simp] theorem State.idleStep_host : s.idleStep.host = s.host := by
  rcases s.idleStep_cases with ⟨-, h⟩ | ⟨-, -, w, r, -, h⟩ | ⟨-, -, -, h⟩ | ⟨-, -, h⟩ <;> rw [h] <;> rfl
@[simp] theorem State.idleStep_schedule : s.idleStep.schedule = s.schedule := by
  rcases s.idleStep_cases with ⟨-, h⟩ | ⟨-, -, w, r, -, h⟩ | ⟨-, -, -, h⟩ | ⟨-, -, h⟩ <;> rw [h] <;> rfl
@[simp] theorem State.idleStep_reports : s.idleStep.reports = s.reports := by
  rcases s.idleStep_cases with ⟨-, h⟩ | ⟨-, -, w, r, -, h⟩ | ⟨-, -, -, h⟩ | ⟨-, -, h⟩ <;> rw [h] <;> rfl
@[simp] theorem State.idleStep_sent : s.idleStep.sent = s.sent := by
  rcases s.idleStep_cases with ⟨-, h⟩ | ⟨-, -, w, r, -, h⟩ | ⟨-, -, -, h⟩ | ⟨-, -, h⟩ <;> rw [h] <;> rfl
@[simp] theorem State.idleStep_responses : s.idleStep.responses = s.responses := by
  rcases s.idleStep_cases with ⟨-, h⟩ | ⟨-, -, w, r, -, h⟩ | ⟨-, -, -, h⟩ | ⟨-, -, h⟩ <;> rw [h] <;> rfl
end IdleStepFrame

/-- ENQUEUE of the host: accepted, refused because full, or refused as illegal (10_state.md R22). -/
theorem State.hostEnqueue_cases (s : State) (cfg : Config) (w : JobWord) :
    (legalWord w = true ∧ s.q.length < cfg.queueDepth ∧ s.hostEnqueue cfg w = (s.pushJob w).addResponse .accepted) ∨
      (legalWord w = true ∧ ¬ s.q.length < cfg.queueDepth ∧
        s.hostEnqueue cfg w = (s.withOverflow true).addResponse .rejectFull) ∨
      (legalWord w = false ∧ s.hostEnqueue cfg w = s.addResponse .rejectIllegal) := by
  cases hl : legalWord w
  · exact .inr (.inr ⟨rfl, by simp [State.hostEnqueue, hl]⟩)
  · by_cases hq : s.q.length < cfg.queueDepth
    · exact .inl ⟨rfl, hq, by simp [State.hostEnqueue, State.hasRoom, hl, hq]⟩
    · exact .inr (.inl ⟨rfl, hq, by simp [State.hostEnqueue, State.hasRoom, hl, hq]⟩)

section HostEnqueueFrame
variable (s : State) (cfg : Config) (w : JobWord)
@[simp] theorem State.hostEnqueue_seqState : (s.hostEnqueue cfg w).seqState = s.seqState := by
  rcases s.hostEnqueue_cases cfg w with ⟨-, -, h⟩ | ⟨-, -, h⟩ | ⟨-, h⟩ <;> rw [h] <;> rfl
@[simp] theorem State.hostEnqueue_tickPending : (s.hostEnqueue cfg w).tickPending = s.tickPending := by
  rcases s.hostEnqueue_cases cfg w with ⟨-, -, h⟩ | ⟨-, -, h⟩ | ⟨-, h⟩ <;> rw [h] <;> rfl
@[simp] theorem State.hostEnqueue_shutdownReq : (s.hostEnqueue cfg w).shutdownReq = s.shutdownReq := by
  rcases s.hostEnqueue_cases cfg w with ⟨-, -, h⟩ | ⟨-, -, h⟩ | ⟨-, h⟩ <;> rw [h] <;> rfl
@[simp] theorem State.hostEnqueue_curJob : (s.hostEnqueue cfg w).curJob = s.curJob := by
  rcases s.hostEnqueue_cases cfg w with ⟨-, -, h⟩ | ⟨-, -, h⟩ | ⟨-, h⟩ <;> rw [h] <;> rfl
@[simp] theorem State.hostEnqueue_txBuf : (s.hostEnqueue cfg w).txBuf = s.txBuf := by
  rcases s.hostEnqueue_cases cfg w with ⟨-, -, h⟩ | ⟨-, -, h⟩ | ⟨-, h⟩ <;> rw [h] <;> rfl
@[simp] theorem State.hostEnqueue_rxBuf : (s.hostEnqueue cfg w).rxBuf = s.rxBuf := by
  rcases s.hostEnqueue_cases cfg w with ⟨-, -, h⟩ | ⟨-, -, h⟩ | ⟨-, h⟩ <;> rw [h] <;> rfl
@[simp] theorem State.hostEnqueue_rxLimit : (s.hostEnqueue cfg w).rxLimit = s.rxLimit := by
  rcases s.hostEnqueue_cases cfg w with ⟨-, -, h⟩ | ⟨-, -, h⟩ | ⟨-, h⟩ <;> rw [h] <;> rfl
@[simp] theorem State.hostEnqueue_crc : (s.hostEnqueue cfg w).crc = s.crc := by
  rcases s.hostEnqueue_cases cfg w with ⟨-, -, h⟩ | ⟨-, -, h⟩ | ⟨-, h⟩ <;> rw [h] <;> rfl
@[simp] theorem State.hostEnqueue_lastPoll : (s.hostEnqueue cfg w).lastPoll = s.lastPoll := by
  rcases s.hostEnqueue_cases cfg w with ⟨-, -, h⟩ | ⟨-, -, h⟩ | ⟨-, h⟩ <;> rw [h] <;> rfl
@[simp] theorem State.hostEnqueue_lastSync : (s.hostEnqueue cfg w).lastSync = s.lastSync := by
  rcases s.hostEnqueue_cases cfg w with ⟨-, -, h⟩ | ⟨-, -, h⟩ | ⟨-, h⟩ <;> rw [h] <;> rfl
@[simp] theorem State.hostEnqueue_host : (s.hostEnqueue cfg w).host = s.host := by
  rcases s.hostEnqueue_cases cfg w with ⟨-, -, h⟩ | ⟨-, -, h⟩ | ⟨-, h⟩ <;> rw [h] <;> rfl
@[simp] theorem State.hostEnqueue_schedule : (s.hostEnqueue cfg w).schedule = s.schedule := by
  rcases s.hostEnqueue_cases cfg w with ⟨-, -, h⟩ | ⟨-, -, h⟩ | ⟨-, h⟩ <;> rw [h] <;> rfl
@[simp] theorem State.hostEnqueue_reports : (s.hostEnqueue cfg w).reports = s.reports := by
  rcases s.hostEnqueue_cases cfg w with ⟨-, -, h⟩ | ⟨-, -, h⟩ | ⟨-, h⟩ <;> rw [h] <;> rfl
@[simp] theorem State.hostEnqueue_sent : (s.hostEnqueue cfg w).sent = s.sent := by
  rcases s.hostEnqueue_cases cfg w with ⟨-, -, h⟩ | ⟨-, -, h⟩ | ⟨-, h⟩ <;> rw [h] <;> rfl
end HostEnqueueFrame

/-- A byte kept in RECEIVE: EVAL when the count reaches the limit, else RECEIVE goes on (R242). -/
theorem State.storeByte_cases (s : State) (b : Byte) :
    (s.rxBuf.length + 1 = s.rxLimit ∧ s.storeByte b = (s.withRx (s.rxBuf ++ [b])).withSeq .eval) ∨
      (¬ s.rxBuf.length + 1 = s.rxLimit ∧ s.storeByte b = s.withRx (s.rxBuf ++ [b])) := by
  by_cases h : s.rxBuf.length + 1 = s.rxLimit
  · exact .inl ⟨h, by simp [State.storeByte, h]⟩
  · exact .inr ⟨h, by simp [State.storeByte, h]⟩

section StoreByteFrame
variable (s : State) (b : Byte)
@[simp] theorem State.storeByte_tickPending : (s.storeByte b).tickPending = s.tickPending := by
  rcases s.storeByte_cases b with ⟨-, h⟩ | ⟨-, h⟩ <;> rw [h] <;> rfl
@[simp] theorem State.storeByte_shutdownReq : (s.storeByte b).shutdownReq = s.shutdownReq := by
  rcases s.storeByte_cases b with ⟨-, h⟩ | ⟨-, h⟩ <;> rw [h] <;> rfl
@[simp] theorem State.storeByte_overflow : (s.storeByte b).overflow = s.overflow := by
  rcases s.storeByte_cases b with ⟨-, h⟩ | ⟨-, h⟩ <;> rw [h] <;> rfl
@[simp] theorem State.storeByte_q : (s.storeByte b).q = s.q := by
  rcases s.storeByte_cases b with ⟨-, h⟩ | ⟨-, h⟩ <;> rw [h] <;> rfl
@[simp] theorem State.storeByte_curJob : (s.storeByte b).curJob = s.curJob := by
  rcases s.storeByte_cases b with ⟨-, h⟩ | ⟨-, h⟩ <;> rw [h] <;> rfl
@[simp] theorem State.storeByte_txBuf : (s.storeByte b).txBuf = s.txBuf := by
  rcases s.storeByte_cases b with ⟨-, h⟩ | ⟨-, h⟩ <;> rw [h] <;> rfl
@[simp] theorem State.storeByte_rxLimit : (s.storeByte b).rxLimit = s.rxLimit := by
  rcases s.storeByte_cases b with ⟨-, h⟩ | ⟨-, h⟩ <;> rw [h] <;> rfl
@[simp] theorem State.storeByte_crc : (s.storeByte b).crc = s.crc := by
  rcases s.storeByte_cases b with ⟨-, h⟩ | ⟨-, h⟩ <;> rw [h] <;> rfl
@[simp] theorem State.storeByte_lastPoll : (s.storeByte b).lastPoll = s.lastPoll := by
  rcases s.storeByte_cases b with ⟨-, h⟩ | ⟨-, h⟩ <;> rw [h] <;> rfl
@[simp] theorem State.storeByte_lastSync : (s.storeByte b).lastSync = s.lastSync := by
  rcases s.storeByte_cases b with ⟨-, h⟩ | ⟨-, h⟩ <;> rw [h] <;> rfl
@[simp] theorem State.storeByte_host : (s.storeByte b).host = s.host := by
  rcases s.storeByte_cases b with ⟨-, h⟩ | ⟨-, h⟩ <;> rw [h] <;> rfl
@[simp] theorem State.storeByte_schedule : (s.storeByte b).schedule = s.schedule := by
  rcases s.storeByte_cases b with ⟨-, h⟩ | ⟨-, h⟩ <;> rw [h] <;> rfl
@[simp] theorem State.storeByte_reports : (s.storeByte b).reports = s.reports := by
  rcases s.storeByte_cases b with ⟨-, h⟩ | ⟨-, h⟩ <;> rw [h] <;> rfl
@[simp] theorem State.storeByte_sent : (s.storeByte b).sent = s.sent := by
  rcases s.storeByte_cases b with ⟨-, h⟩ | ⟨-, h⟩ <;> rw [h] <;> rfl
@[simp] theorem State.storeByte_responses : (s.storeByte b).responses = s.responses := by
  rcases s.storeByte_cases b with ⟨-, h⟩ | ⟨-, h⟩ <;> rw [h] <;> rfl
end StoreByteFrame

@[simp] theorem State.storeByte_rxBuf (s : State) (b : Byte) : (s.storeByte b).rxBuf = s.rxBuf ++ [b] := by
  rcases s.storeByte_cases b with ⟨-, h⟩ | ⟨-, h⟩ <;> rw [h] <;> rfl

section PopActionFrame
variable (s : State)
@[simp] theorem State.popAction_seqState : s.popAction.seqState = s.seqState := rfl
@[simp] theorem State.popAction_tickPending : s.popAction.tickPending = s.tickPending := rfl
@[simp] theorem State.popAction_shutdownReq : s.popAction.shutdownReq = s.shutdownReq := rfl
@[simp] theorem State.popAction_overflow : s.popAction.overflow = s.overflow := rfl
@[simp] theorem State.popAction_q : s.popAction.q = s.q := rfl
@[simp] theorem State.popAction_curJob : s.popAction.curJob = s.curJob := rfl
@[simp] theorem State.popAction_txBuf : s.popAction.txBuf = s.txBuf := rfl
@[simp] theorem State.popAction_rxBuf : s.popAction.rxBuf = s.rxBuf := rfl
@[simp] theorem State.popAction_rxLimit : s.popAction.rxLimit = s.rxLimit := rfl
@[simp] theorem State.popAction_crc : s.popAction.crc = s.crc := rfl
@[simp] theorem State.popAction_lastPoll : s.popAction.lastPoll = s.lastPoll := rfl
@[simp] theorem State.popAction_lastSync : s.popAction.lastSync = s.lastSync := rfl
@[simp] theorem State.popAction_host : s.popAction.host = s.host := rfl
@[simp] theorem State.popAction_reports : s.popAction.reports = s.reports := rfl
@[simp] theorem State.popAction_sent : s.popAction.sent = s.sent := rfl
@[simp] theorem State.popAction_responses : s.popAction.responses = s.responses := rfl
end PopActionFrame

@[simp] theorem State.popAction_schedule (s : State) : s.popAction.schedule = s.schedule.tail := rfl

/-- A job kind answers a next state only in EXEC and EVAL with a job in CUR_JOB, and there always. -/
theorem runJob_next (cfg : Config) (k : JobKind) (prepare : Config → State → Prepared) (s t : State) :
    runJob cfg k prepare s = .next t ↔
      ∃ w, s.curJob = some w ∧
        ((s.seqState = .exec ∧ t = s.execHalf cfg k w (prepare cfg s)) ∨
          (s.seqState = .eval ∧ t = s.evalHalf cfg k w)) := by
  unfold runJob
  cases s.seqState <;> cases s.curJob <;> simp [eq_comm]

/-- A frame function answers a next state exactly in SEND. -/
theorem runFrame_next (s t : State) : runFrame s = .next t ↔ s.seqState = .send ∧ t = s.sendFrame := by
  unfold runFrame
  cases s.seqState <;> simp [eq_comm]

/-- What the EXEC half of a job does (R236, R237). -/
theorem State.execHalf_cases (s : State) (cfg : Config) (k : JobKind) (w : JobWord) (p : Prepared) :
    (∃ r, p = .early r ∧ s.execHalf cfg k w p = s.endJob cfg k w r) ∨
      (∃ t, p = .frame t ∧ s.execHalf cfg k w p = t.withSeq .send) := by
  cases p with
  | early r => exact .inl ⟨r, rfl, rfl⟩
  | frame t => exact .inr ⟨t, rfl, rfl⟩

end Sys2Proof.Machine
end

