-- ==== Sys2Proof/Laws/PerInstr.lean ====
section
/-! SUPPORT. Statements about every instruction as syntax, one lemma per constructor. -/

namespace Sys2Proof

/-- The code of an instruction selects the instruction's own row of R101, and no other; the FUNC byte of a frame function is
one of R91. -/
def Laws.EncodeSelectsOwnRow.Statement (i : Instr) : Prop :=
  match encode i, i.jobKind with
  | .job w, some k => (selectedRows w).map JobRow.kind = [k]
  | .func b, none => b = 0x00#8 ∨ b = 0x01#8
  | .job _, none => False
  | .func _, some _ => False

theorem Laws.EncodeSelectsOwnRow.poll (a : Byte) : Laws.EncodeSelectsOwnRow.Statement (.poll a) := by
  simp [Laws.EncodeSelectsOwnRow.Statement, encode, Instr.jobKind, selectedRows_jobWord]

theorem Laws.EncodeSelectsOwnRow.syncClock (a : Byte) : Laws.EncodeSelectsOwnRow.Statement (.syncClock a) := by
  simp [Laws.EncodeSelectsOwnRow.Statement, encode, Instr.jobKind, selectedRows_jobWord]

theorem Laws.EncodeSelectsOwnRow.setTemp (a t : Byte) (u : TempUnit) :
    Laws.EncodeSelectsOwnRow.Statement (.setTemp a t u) := by
  simp [Laws.EncodeSelectsOwnRow.Statement, encode, Instr.jobKind, selectedRows_jobWord]

theorem Laws.EncodeSelectsOwnRow.setHotWater (a : Byte) (on : Bool) :
    Laws.EncodeSelectsOwnRow.Statement (.setHotWater a on) := by
  cases on <;> simp [Laws.EncodeSelectsOwnRow.Statement, encode, Instr.jobKind, selectedRows_jobWord, onArgument]

theorem Laws.EncodeSelectsOwnRow.probe (a : Byte) : Laws.EncodeSelectsOwnRow.Statement (.probe a) := by
  simp [Laws.EncodeSelectsOwnRow.Statement, encode, Instr.jobKind, selectedRows_jobWord]

theorem Laws.EncodeSelectsOwnRow.read : Laws.EncodeSelectsOwnRow.Statement .read := by
  simp [Laws.EncodeSelectsOwnRow.Statement, encode, Instr.jobKind]

theorem Laws.EncodeSelectsOwnRow.write : Laws.EncodeSelectsOwnRow.Statement .write := by
  simp [Laws.EncodeSelectsOwnRow.Statement, encode, Instr.jobKind]

end Sys2Proof
end

