-- ==== Sys2Proof/Laws/Step.lean ====
section
/-! SUPPORT. What a step can do, said once: the inversion of each half of a job, of the BLOCK's step and of a step. -/

namespace Sys2Proof.Machine

/-- A job word decodes to a job kind, never to a frame function. -/
theorem decodeJob_kind {w : JobWord} {i : Instr} (h : decodeJob w = .ok i) : ∃ k, i.jobKind = some k := by
  unfold decodeJob at h
  split_ifs at h <;> cases h <;> exact ⟨_, rfl⟩

/-- A FUNC byte decodes to a frame function. -/
theorem decodeFunc_cases {b : Byte} {i : Instr} (h : decodeFunc b = .ok i) : i = .read ∨ i = .write := by
  unfold decodeFunc at h
  split_ifs at h <;> cases h <;> simp

/-- A word is legal exactly when it decodes. -/
theorem legalWord_iff (w : JobWord) : legalWord w = true ↔ ∃ i, decodeJob w = .ok i := by
  unfold legalWord
  split <;> simp_all

section Prepare
variable (a t : Byte) (u : TempUnit) (on : Bool) (cfg : Config) (s : State)

theorem preparePoll_cases :
    (deviceAddress a = true ∧ preparePoll a cfg s = .frame (s.loadRead cfg a)) ∨
      (deviceAddress a = false ∧ preparePoll a cfg s = .early .configuration) := by
  cases h : deviceAddress a <;> simp [preparePoll, h]

theorem prepareProbe_cases :
    (probeAddress a = true ∧ prepareProbe a cfg s = .frame (s.loadRead cfg a)) ∨
      (probeAddress a = false ∧ prepareProbe a cfg s = .early .configuration) := by
  cases h : probeAddress a <;> simp [prepareProbe, h]

theorem prepareSyncClock_cases :
    (deviceAddress a = true ∧
        prepareSyncClock a cfg s = .frame (s.loadWrite cfg a 43#16 (clockPayload cfg.clockWrap s.host.wallclock))) ∨
      (deviceAddress a = false ∧ prepareSyncClock a cfg s = .early .configuration) := by
  cases h : deviceAddress a <;> simp [prepareSyncClock, h]

theorem prepareSetTemp_cases :
    (deviceAddress a = true ∧ inTempRange t u = true ∧
        prepareSetTemp a t u cfg s = .frame (s.loadWrite cfg a 18#16 (tempPayload t))) ∨
      (deviceAddress a = true ∧ inTempRange t u = false ∧ prepareSetTemp a t u cfg s = .early .outOfRange) ∨
      (deviceAddress a = false ∧ prepareSetTemp a t u cfg s = .early .configuration) := by
  cases h : deviceAddress a <;> cases h' : inTempRange t u <;> simp [prepareSetTemp, h, h']

theorem prepareSetHotWater_cases :
    (deviceAddress a = true ∧ prepareSetHotWater a on cfg s = .frame (s.loadWrite cfg a 42#16 (hotWaterPayload on))) ∨
      (deviceAddress a = false ∧ prepareSetHotWater a on cfg s = .early .configuration) := by
  cases h : deviceAddress a <;> simp [prepareSetHotWater, h]

end Prepare

/-- The EXEC half of a job, whatever its kind. -/
def prepareOf (i : Instr) (cfg : Config) (s : State) : Prepared :=
  match i with
  | .poll a => preparePoll a cfg s
  | .syncClock a => prepareSyncClock a cfg s
  | .setTemp a t u => prepareSetTemp a t u cfg s
  | .setHotWater a on => prepareSetHotWater a on cfg s
  | .probe a => prepareProbe a cfg s
  | .read => .early .configuration
  | .write => .early .configuration

/-- Every job kind runs by the one shared operation. -/
theorem exec_job {i : Instr} {k : JobKind} (hk : i.jobKind = some k) (s : State) :
    exec i s = runJob Config.ofBlock k (prepareOf i) s := by
  cases i <;> simp only [Instr.jobKind, Option.some.injEq, reduceCtorEq] at hk <;> subst hk <;> rfl

/-- A job kind answers a next state exactly in EXEC and EVAL with a job in CUR_JOB. -/
theorem exec_job_next {i : Instr} {k : JobKind} (hk : i.jobKind = some k) (s t : State) :
    exec i s = .next t ↔
      ∃ w, s.curJob = some w ∧
        ((s.seqState = .exec ∧ t = s.execHalf Config.ofBlock k w (prepareOf i Config.ofBlock s)) ∨ (s.seqState = .eval ∧ t = s.evalHalf Config.ofBlock k w)) := by
  rw [exec_job hk, runJob_next]

/-- What a BLOCK step can do, one case per SEQ_STATE (44_sequencer.md R230). -/
theorem blockStep_cases {s t : State} (h : blockStep s = .next t) :
    (s.seqState = .idle ∧ t = s.idleStep) ∨
      (s.seqState = .exec ∧ ∃ w i k, s.curJob = some w ∧ decodeJob w = .ok i ∧ i.jobKind = some k ∧
        t = s.execHalf Config.ofBlock k w (prepareOf i Config.ofBlock s)) ∨
      (s.seqState = .send ∧ (∃ b i, s.txBuf[3]? = some b ∧ decodeFunc b = .ok i) ∧ t = s.sendFrame) ∨
      (s.seqState = .receive ∧ t = s) ∨
      (s.seqState = .eval ∧ ∃ w i k, s.curJob = some w ∧ decodeJob w = .ok i ∧ i.jobKind = some k ∧
        t = s.evalHalf Config.ofBlock k w) ∨
      (s.seqState = .sweep ∧ t = s.sweepStep Config.ofBlock) ∨
      (s.seqState = .stopped ∧ t = s) := by
  unfold blockStep State.fetch at h
  cases hs : s.seqState <;> simp only [hs, State.quietStep] at h
  case idle => exact .inl ⟨rfl, (Host.Outcome.next.inj h).symm⟩
  case exec =>
    cases hw : s.curJob with
    | none => simp [hw] at h
    | some w =>
      cases hd : decodeJob w with
      | error e => simp [hw, decode, hd] at h
      | ok i =>
        obtain ⟨k, hk⟩ := decodeJob_kind hd
        simp only [hw, decode, hd, exec_job_next hk, hs] at h
        obtain ⟨w', hw', h⟩ := h
        obtain rfl := Option.some.inj hw'
        rcases h with ⟨-, h⟩ | ⟨hc, -⟩
        · exact .inr (.inl ⟨rfl, w, i, k, rfl, hd, hk, h⟩)
        · cases hc
  case send =>
    simp only [State.txRead_eq] at h
    cases hb : s.txBuf[funcIndex]? with
    | none => simp [hb] at h
    | some b =>
      cases hd : decodeFunc b with
      | error e => simp [hb, decode, hd] at h
      | ok i =>
        simp only [hb, decode, hd] at h
        have ht : t = s.sendFrame := by
          rcases decodeFunc_cases hd with rfl | rfl
          · exact ((runFrame_next s t).1 h).2
          · exact ((runFrame_next s t).1 h).2
        exact .inr (.inr (.inl ⟨rfl, ⟨b, i, hb, hd⟩, ht⟩))
  case receive => exact .inr (.inr (.inr (.inl ⟨rfl, (Host.Outcome.next.inj h).symm⟩)))
  case eval =>
    cases hw : s.curJob with
    | none => simp [hw] at h
    | some w =>
      cases hd : decodeJob w with
      | error e => simp [hw, decode, hd] at h
      | ok i =>
        obtain ⟨k, hk⟩ := decodeJob_kind hd
        simp only [hw, decode, hd, exec_job_next hk, hs] at h
        obtain ⟨w', hw', h⟩ := h
        obtain rfl := Option.some.inj hw'
        rcases h with ⟨hc, -⟩ | ⟨-, h⟩
        · cases hc
        · exact .inr (.inr (.inr (.inr (.inl ⟨rfl, w, i, k, rfl, hd, hk, h⟩))))
  case sweep => exact .inr (.inr (.inr (.inr (.inr (.inl ⟨rfl, (Host.Outcome.next.inj h).symm⟩)))))
  case stopped => exact .inr (.inr (.inr (.inr (.inr (.inr ⟨rfl, (Host.Outcome.next.inj h).symm⟩)))))

/-- What RxByte can do (R241, R242). -/
theorem State.rxByte_cases {s t : State} {b : Byte} (h : s.rxByte Config.ofBlock b = .next t) :
    (s.seqState = .receive ∧ s.rxBuf.length < Config.ofBlock.rxCapacity ∧ t = s.storeByte b) ∨
      (s.seqState ≠ .receive ∧ t = s) := by
  unfold State.rxByte at h
  split_ifs at h with hr hc
  · exact .inl ⟨hr, hc, (Host.Outcome.next.inj h).symm⟩
  · exact .inr ⟨hr, (Host.Outcome.next.inj h).symm⟩

/-- A step is the step of the agent that the schedule names, on the state without that action. -/
theorem step_eq (s : State) : step s = agentStep s.nextAction s.popAction := rfl

/-- What a step can do, one case per action of the schedule (10_state.md R20, R22 to R26, R29). -/
theorem step_cases {s t : State} (h : step s = .next t) :
    (s.nextAction = .block ∧ blockStep s.popAction = .next t) ∨
      (∃ w, s.nextAction = .enqueue w ∧ t = s.popAction.hostEnqueue Config.ofBlock w) ∨
      (s.nextAction = .tick ∧ t = s.popAction.tick) ∨
      (s.nextAction = .shutdown ∧ t = s.popAction.shutdown) ∨
      (s.nextAction = .reset ∧ t = s.popAction.resetBlock) ∨
      (∃ i, s.nextAction = .drive i ∧ t = s.popAction.withHost i) ∨
      (∃ b, s.nextAction = .rxByte b ∧ s.popAction.rxByte Config.ofBlock b = .next t) ∨
      (s.nextAction = .rxTimeout ∧ t = s.popAction.rxTimeout) := by
  rw [step_eq] at h
  cases ha : s.nextAction <;> simp only [ha, agentStep, Host.Outcome.next.injEq] at h <;> simp [h]

end Sys2Proof.Machine
end

