-- ==== Sys2Proof/Machine/Text.lean ====
section
/-! DEFINITION. The text syntax of 30_encoding.md R107: one line stands for a job word, a host event or a channel reply. The
spec gives every spelling; the block itself reads no text. -/

namespace Sys2Proof.Machine

/-- What a line says (R107). -/
inductive TextLine where
  | job (i : Instr)
  | tick
  | shutdown
  | reset
  | reply (bytes : List Byte)
  | timeout
deriving DecidableEq, Repr

/-- The value of a hex digit. -/
def hexDigit (c : Char) : Option Nat :=
  if '0'.toNat ≤ c.toNat ∧ c.toNat ≤ '9'.toNat then some (c.toNat - '0'.toNat)
  else if 'a'.toNat ≤ c.toNat ∧ c.toNat ≤ 'f'.toNat then some (c.toNat - 'a'.toNat + 10)
  else if 'A'.toNat ≤ c.toNat ∧ c.toNat ≤ 'F'.toNat then some (c.toNat - 'A'.toNat + 10)
  else none

/-- A digit of a base no larger than 16. -/
def digitOf (base : Nat) (c : Char) : Option Nat := (hexDigit c).filter (· < base)

/-- The digits after a value read so far. -/
def readDigits (base : Nat) : Nat → List Char → Option Nat
  | acc, [] => some acc
  | acc, c :: rest =>
    match digitOf base c with
    | some d => readDigits base (acc * base + d) rest
    | none => none

/-- A number, decimal or 0x-prefixed hex (R107). -/
def readNumber : List Char → Option Nat
  | [] => none
  | ['0', 'x'] => none
  | '0' :: 'x' :: digits => readDigits 16 0 digits
  | digits => readDigits 10 0 digits

/-- A number that fits a byte. -/
def readByteNumber (t : List Char) : Option Byte :=
  ((readNumber t).filter (· < 256)).map (BitVec.ofNat 8)

/-- A byte of a reply, two hex digits. -/
def readHexByte : List Char → Option Byte
  | [hi, lo] => ((readDigits 16 0 [hi, lo])).map (BitVec.ofNat 8)
  | _ => none

/-- The characters before the comment sign. -/
def stripComment (line : List Char) : List Char := line.takeWhile (· ≠ ';')

/-- The words of a line, which spaces and commas separate; `word` holds the one being read. -/
def splitWords : List Char → List Char → List (List Char)
  | word, [] => if word = [] then [] else [word]
  | word, c :: rest =>
    if c = ' ' ∨ c = ',' then
      if word = [] then splitWords [] rest else word :: splitWords [] rest
    else splitWords (word ++ [c]) rest

/-- UNIT of settemp (R107). -/
def readUnit (t : List Char) : Option TempUnit :=
  if t = ['C'] then some .celsius else if t = ['F'] then some .fahrenheit else none

/-- ON of hotwater (R107). -/
def readOn (t : List Char) : Option Bool :=
  if t = ['o', 'n'] then some true else if t = ['o', 'f', 'f'] then some false else none

/-- The line with these words, none when R107 has no such line. -/
def lineOfWords (words : List (List Char)) : Option TextLine :=
  match words with
  | [['p', 'o', 'l', 'l'], a] => (readByteNumber a).map fun x => .job (.poll x)
  | [['s', 'y', 'n', 'c'], a] => (readByteNumber a).map fun x => .job (.syncClock x)
  | [['p', 'r', 'o', 'b', 'e'], a] => (readByteNumber a).map fun x => .job (.probe x)
  | [['s', 'e', 't', 't', 'e', 'm', 'p'], a, t, u] => do
    let x ← readByteNumber a
    let y ← readByteNumber t
    let z ← readUnit u
    return .job (.setTemp x y z)
  | [['h', 'o', 't', 'w', 'a', 't', 'e', 'r'], a, t] => do
    let x ← readByteNumber a
    let y ← readOn t
    return .job (.setHotWater x y)
  | [['t', 'i', 'c', 'k']] => some .tick
  | [['s', 'h', 'u', 't', 'd', 'o', 'w', 'n']] => some .shutdown
  | [['r', 'e', 's', 'e', 't']] => some .reset
  | [['t', 'i', 'm', 'e', 'o', 'u', 't']] => some .timeout
  | ['r', 'e', 'p', 'l', 'y'] :: bytes => (bytes.mapM readHexByte).map .reply
  | _ => none

/-- The meaning of a line of text (R107). -/
def readLine (line : List Char) : Option TextLine := lineOfWords (splitWords [] (stripComment line))

/-- The host's or channel's actions that a line stands for; a job is offered by ENQUEUE. -/
def TextLine.actions : TextLine → List Action
  | .job i =>
    match encode i with
    | .job w => [.enqueue w]
    | .func _ => []
  | .tick => [.tick]
  | .shutdown => [.shutdown]
  | .reset => [.reset]
  | .reply bytes => bytes.map .rxByte
  | .timeout => [.rxTimeout]

end Sys2Proof.Machine
end

