-- ==== Sys2Proof/Tests/Slice0.lean ====
section
/-! SUPPORT. The model's own tests: expected values come from spec/95_test_vectors.md, whose vector each test names. Then, for
every statement with hypotheses, states and operands that meet them. -/

namespace Sys2Proof.Tests

open Sys2Proof.Machine Sys2Proof.Claim

/-! Decoding: the word of each kind written out by its fields RSV1, ARG, ADDR, RSV0, UNIT and KIND (30_encoding.md R100). -/

theorem test_decode_poll :
    decodeTableWord 32 0b00000000_00000000_00000011_0000_0_000 = some (.poll 3#8) := by decide

theorem test_decode_syncClock :
    decodeTableWord 32 0b00000000_00000000_00000011_0000_0_001 = some (.syncClock 3#8) := by decide

theorem test_decode_setTemp :
    decodeTableWord 32 0b00000000_00010101_00000011_0000_0_010 = some (.setTemp 3#8 21#8 .celsius) ∧
    decodeTableWord 32 0b00000000_00101001_00000011_0000_1_010 = some (.setTemp 3#8 41#8 .fahrenheit) := by decide

theorem test_decode_setHotWater :
    decodeTableWord 32 0b00000000_00000001_00000011_0000_0_011 = some (.setHotWater 3#8 true) ∧
    decodeTableWord 32 0b00000000_00000000_00000011_0000_0_011 = some (.setHotWater 3#8 false) := by decide

theorem test_decode_probe :
    decodeTableWord 32 0b00000000_00000000_11111111_0000_0_100 = some (.probe 0xFF#8) := by decide

theorem test_decode_functions :
    decodeTableWord 8 0b00000000 = some .read ∧ decodeTableWord 8 0b00000001 = some .write ∧
    decodeTableWord 8 0b00000010 = none := by decide

/-! Ill-formed terms, one for each check of WellFormed (30_encoding.md R108; 00_scope.md R10; 30_encoding.md R90 to R93). -/

/-- ENQ-2 to ENQ-9 of 95_test_vectors.md. -/
theorem test_ill_formed_words :
    [0x00000305#32, 0x00000307#32, 0x00000310#32, 0x00000308#32, 0x01000300#32, 0x00010300#32, 0x00020303#32,
      0x00010313#32].all (fun w => !wellFormedWord w && !legalWord w) = true := by decide

/-- ENQ-1 and ENQ-10 to ENQ-16: legal, whatever becomes of them in EXEC. -/
theorem test_well_formed_words :
    [0x00000300#32, 0x00010303#32, 0x00150302#32, 0x0015030A#32, 0x00FF0302#32, 0x0000FF04#32, 0x0000FF00#32,
      0x00000000#32].all (fun w => wellFormedWord w && legalWord w) = true := by decide

theorem test_reserved_names :
    decodeJob 0x00000307#32 = .error .reservedKind ∧ decodeJob 0x00000310#32 = .error .reservedLow ∧
    decodeJob 0x01000300#32 = .error .reservedHigh ∧ decodeJob 0x00000308#32 = .error .unitOutsideSetTemp ∧
    decodeJob 0x00020303#32 = .error .reservedArgument ∧ decodeFunc 0xFF#8 = .error .reservedFunction := by decide

/-- The configuration of the vectors where they say nothing else. -/
def vectorConfig : Config := { maxReply := 64, queueDepth := 8, clockWrap := .quirk, probeRetry := false }

theorem test_illegal_parameters :
    { vectorConfig with maxReply := 2 }.legal = false ∧ { vectorConfig with queueDepth := 0 }.legal = false ∧
    vectorConfig.legal = true := by decide

/-- A read with a payload, a write whose END is not its payload's length, a register the block never names, and the
addresses 0, 32 and 0x81. -/
theorem test_illegal_frames :
    [({ dest := 3#8, func := .read, start := 0#16, endField := 0xFFFF#16, payload := [1#8] } : RequestFrame),
      { dest := 3#8, func := .write, start := 18#16, endField := 2#16, payload := [1#8] },
      { dest := 3#8, func := .write, start := 19#16, endField := 1#16, payload := [1#8] },
      { dest := 0#8, func := .read, start := 0#16, endField := 0xFFFF#16, payload := [] },
      { dest := 32#8, func := .read, start := 0#16, endField := 0xFFFF#16, payload := [] },
      { dest := 0x81#8, func := .read, start := 0#16, endField := 0xFFFF#16, payload := [] }].all
        (fun f => !f.wellFormed) = true := by decide

/-! The states of the tests: the reset state with a job, and with a request or a reply in its buffer. -/

/-- A job in CUR_JOB in EXEC. -/
def execState (w : JobWord) : State := { State.reset with seqState := .exec, curJob := some w }

/-- The reset state with WALLCLOCK at the given time. -/
def atTime (weekday hour minute second : Byte) (s : State) : State :=
  { s with host := { s.host with wallclock := { weekday, hour, minute, second } } }

/-- A job whose request is in TX_BUF, in SEND. -/
def sendState (w : JobWord) (frame : List Byte) (limit : Nat) : State :=
  { State.reset with seqState := .send, curJob := some w, txBuf := frame, rxLimit := limit }

/-- The same job in RECEIVE with the bytes received so far. -/
def receiveState (w : JobWord) (frame : List Byte) (limit : Nat) (reply : List Byte) : State :=
  { sendState w frame limit with seqState := .receive, rxBuf := reply }

/-- The same job in EVAL. -/
def evalState (w : JobWord) (frame : List Byte) (limit : Nat) (reply : List Byte) : State :=
  { sendState w frame limit with seqState := .eval, rxBuf := reply }

/-- The state with the request that prepare has built, if it has. -/
def framed (p : Prepared) : Option State :=
  match p with
  | .frame t => some t
  | .early _ => none

/-- The next state of an outcome, if it is one. -/
def nextOf (o : Host.Outcome State Fault Refusal) : Option State :=
  match o with
  | .next t => some t
  | .fault _ => none
  | .refused _ => none

/-- The fields of the next state's reports that 95_test_vectors.md lists, and PRESENT. -/
def reported (o : Host.Outcome State Fault Refusal) : Option (List (JobWord × OutcomeCode × Nat × Bool × Bool)) :=
  (nextOf o).map (fun t => t.reports.map (fun r => (r.job, r.outcome, r.cause, r.requeued, r.present)))

/-- FRM-2. -/
def pollFrame : List Byte := [0x03#8, 0x0A#8, 0x81#8, 0x00#8, 0x00#8, 0x00#8, 0xFF#8, 0xFF#8, 0x8A#8, 0x86#8]

/-- FRM-5. -/
def probeFrame : List Byte := [0xFF#8, 0x0A#8, 0x81#8, 0x00#8, 0x00#8, 0x00#8, 0xFF#8, 0xFF#8, 0xB0#8, 0xDA#8]

/-- FRM-15. -/
def syncFrame : List Byte :=
  [0x05#8, 0x0E#8, 0x81#8, 0x01#8, 0x2B#8, 0x00#8, 0x04#8, 0x00#8, 0x07#8, 0x17#8, 0x3B#8, 0x01#8, 0x86#8, 0x4C#8]

/-- FRM-10. -/
def tempFrame : List Byte := [0x03#8, 0x0B#8, 0x81#8, 0x01#8, 0x12#8, 0x00#8, 0x01#8, 0x00#8, 0x29#8, 0x03#8, 0x77#8]

/-- FRM-12. -/
def waterFrame : List Byte := [0x03#8, 0x0B#8, 0x81#8, 0x01#8, 0x2A#8, 0x00#8, 0x01#8, 0x00#8, 0x01#8, 0xAA#8, 0xDC#8]

/-- ACK-2. -/
def ack : List Byte := [0x81#8, 0x07#8, 0x00#8, 0x03#8, 0x01#8, 0xD2#8, 0x8D#8]

/-! One step of each instruction. -/

section
set_option maxRecDepth 8000

/-- FRM-2. -/
theorem test_poll_exec :
    (nextOf (exec (.poll 3#8) (execState 0x00000300#32))).map (fun t => (t.txBuf, t.seqState)) =
      some (pollFrame, .send) ∧
    (framed (preparePoll 3#8 vectorConfig (execState 0x00000300#32))).map (·.rxLimit) = some 64 := by decide

/-- DEC-4: a checksum failure is retried. -/
theorem test_poll_eval :
    reported (exec (.poll 3#8) (evalState 0x00000300#32 pollFrame 64 [0x01#8, 0xF1#8, 0xD1#8])) =
      some [(0x00000300#32, .noReply, 2, true, false)] := by decide

/-- FRM-5. -/
theorem test_probe_exec :
    (nextOf (exec (.probe 0xFF#8) (execState 0x0000FF04#32))).map (·.txBuf) = some probeFrame := by decide

/-- DEC-5 for a PROBE: present, and retried (RTY-6). -/
theorem test_probe_eval :
    reported (exec (.probe 0xFF#8) (evalState 0x0000FF04#32 probeFrame 64 [0x01#8, 0xD1#8, 0xF1#8])) =
      some [(0x0000FF04#32, .malformedBlock, 0, true, true)] := by decide

/-- FRM-15. -/
theorem test_syncClock_exec :
    (framed (prepareSyncClock 5#8 vectorConfig (atTime 7#8 23#8 59#8 58#8 (execState 0x00000501#32)))).map
      (fun t => (t.txBuf, t.rxLimit)) = some (syncFrame, 7) := by decide

/-- ACK-11: another device's acknowledgement is accepted. -/
theorem test_syncClock_eval :
    reported (exec (.syncClock 5#8) (evalState 0x00000501#32 syncFrame 7 ack)) =
      some [(0x00000501#32, .ok, 0, false, false)] := by decide

/-- FRM-10. -/
theorem test_setTemp_exec :
    (nextOf (exec (.setTemp 3#8 41#8 .fahrenheit) (execState 0x0029030A#32))).map (·.txBuf) = some tempFrame := by decide

/-- ADR-6: the address is checked before the temperature; ENQ-13: out of range, nothing sent. -/
theorem test_setTemp_early :
    (nextOf (exec (.setTemp 0#8 4#8 .celsius) (execState 0x00040002#32))).map (fun t => t.reports.map (·.outcome)) =
      some [.configuration] ∧
    (nextOf (exec (.setTemp 3#8 255#8 .celsius) (execState 0x00FF0302#32))).map (fun t => t.reports.map (·.outcome)) =
      some [.outOfRange] := by decide

/-- FRM-12. -/
theorem test_setHotWater_exec :
    (nextOf (exec (.setHotWater 3#8 true) (execState 0x00010303#32))).map (·.txBuf) = some waterFrame := by decide

/-- ACK-8: a short reply is retried, at the tail of the FIFO. -/
theorem test_setHotWater_eval :
    (let t := { evalState 0x00010303#32 waterFrame 7 (ack.take 6) with q := [0x00000301#32] }.evalHalf vectorConfig
        .setHotWater 0x00010303#32;
      (t.reports.map (·.outcome), t.q, t.curJob, t.seqState)) =
      ([.shortReply], [0x00000301#32, 0x00010303#32], none, .sweep) := by decide

/-- SEQ-6. -/
theorem test_read_send :
    exec .read (sendState 0x00000300#32 pollFrame 64) =
      .next { receiveState 0x00000300#32 pollFrame 64 [] with sent := [pollFrame] } := by rfl

/-- SEQ-6: an earlier reply is discarded. -/
theorem test_write_send :
    exec .write { sendState 0x00010303#32 waterFrame 7 with rxBuf := ack } =
      .next { receiveState 0x00010303#32 waterFrame 7 [] with sent := [waterFrame] } := by rfl

/-- What the host asks of a row: its word is fetched and run as the first step. -/
theorem test_withFetchWord :
    step (State.reset.withFetchWord 32 0x00150302) =
      exec (.setTemp 3#8 21#8 .celsius) (State.reset.withFetchWord 32 0x00150302) ∧
    step (State.reset.withFetchWord 8 1) = exec .write (State.reset.withFetchWord 8 1) := ⟨rfl, rfl⟩

/-! The other operations. -/

/-- CRC-7 and CRC-18. -/
theorem test_crc :
    computeCRC [0x31#8, 0x32#8, 0x33#8, 0x34#8, 0x35#8, 0x36#8, 0x37#8, 0x38#8, 0x39#8] = { hi := 0x29#8, lo := 0xB1#8 } ∧
    nib crcInit 0#4 = { hi := 0x0E#8, lo := 0x1F#8 } ∧
    nib (nib crcInit 0#4) 1#4 = { hi := 0xF1#8, lo := 0xD1#8 } := by decide

/-- CRC-12, CRC-15 and CRC-17. -/
theorem test_crc_corners :
    appendCRC [0xAA#8, 0xBB#8] = some [0xFF#8, 0xFF#8] ∧ verifyCRC [0xFF#8, 0xFF#8] = false ∧
    verifyCRC [0x01#8, 0xF1#8, 0xD1#8] = false ∧ appendCRC [0xAA#8] = none := by decide

/-- ADJ-1 to ADJ-6. -/
theorem test_adjustSecond :
    [0, 57, 58, 59, 60, 255].map (fun n => (adjustSecond .quirk (BitVec.ofNat 8 n)).toNat) = [2, 59, 1, 2, 3, 198] ∧
    [0, 57, 58, 59, 60, 255].map (fun n => (adjustSecond .mod60 (BitVec.ofNat 8 n)).toNat) = [2, 59, 0, 1, 2, 197] := by
  decide

/-- SWP-1, SWP-2, SWP-5, SWP-6 and SWP-7. -/
theorem test_intervals :
    intervalExceeded 60#32 0#32 60#32 = false ∧ intervalExceeded 61#32 0#32 60#32 = true ∧
    intervalExceeded 0x10#32 0xFFFFFFF0#32 31#32 = true ∧ intervalExceeded 0x10#32 0xFFFFFFF0#32 32#32 = false ∧
    intervalExceeded 50#32 100#32 1000#32 = true := by decide

/-- V-DCB-1. -/
def prtReply : List Byte :=
  [0x81#8, 0x37#8, 0x00#8, 0x03#8, 0x00#8, 0x00#8, 0x00#8, 0x2C#8, 0x00#8, 0x00#8, 0x2C#8, 0x00#8, 0x0F#8, 0x02#8,
   0x00#8, 0x01#8, 0x01#8, 0x00#8, 0x00#8, 0x00#8, 0x03#8, 0x00#8, 0x00#8, 0x00#8, 0x14#8, 0x00#8, 0x0C#8, 0x15#8,
   0x1C#8, 0x00#8, 0x01#8, 0x00#8, 0x00#8, 0x00#8, 0x00#8, 0x00#8, 0x00#8, 0xFF#8, 0xFF#8, 0xFF#8, 0xFF#8, 0x00#8,
   0xD7#8, 0x00#8, 0x01#8, 0x03#8, 0x0E#8, 0x1E#8, 0x05#8, 0x00#8, 0x00#8, 0x00#8, 0x00#8, 0x50#8, 0xB9#8]

/-- V-DCB-1: the air temperature, the absent ones and the tail. -/
theorem test_parse_prt :
    (match parseStatusBlock prtReply with
      | .ok r => some (r.airTemp, r.remoteAirTemp, r.heatingOn.isOn, r.setRoomTemp, r.modelID.name, r.tail)
      | .error _ => none) =
      some (.present 21 0x00D7#16, .absent, true, 21#8, .prt,
        .prt { weekday := 3#8, hour := 14#8, minute := 30#8, second := 5#8 }) := by decide

/-- V-DCB-2. -/
def prthwReply : List Byte :=
  [0x81#8, 0x34#8, 0x00#8, 0x05#8, 0x00#8, 0x00#8, 0x00#8, 0x29#8, 0x00#8, 0x00#8, 0x29#8, 0x00#8, 0x8F#8, 0x04#8,
   0x00#8, 0x01#8, 0x01#8, 0x00#8, 0x00#8, 0x00#8, 0x03#8, 0x00#8, 0x00#8, 0x00#8, 0x14#8, 0x00#8, 0x0C#8, 0x15#8,
   0x1C#8, 0x00#8, 0x01#8, 0x00#8, 0x00#8, 0x00#8, 0x00#8, 0x00#8, 0x00#8, 0x00#8, 0xC8#8, 0x01#8, 0x2C#8, 0x00#8,
   0xD7#8, 0x00#8, 0x01#8, 0x01#8, 0x07#8, 0x17#8, 0x3B#8, 0x3A#8, 0x51#8, 0x7D#8]

/-- V-DCB-2: the software version without the floor limit bit, and the hot-water byte before the clock echo. -/
theorem test_parse_prthw :
    (match parseStatusBlock prthwReply with
      | .ok r => some (r.softwareVersion, r.floorLimitState, r.remoteAirTemp, r.tail)
      | .error _ => none) =
      some (15#7, 1#1, .present 20 200#16, .prthw { raw := 1#8, isOn := true }
        { weekday := 7#8, hour := 23#8, minute := 59#8, second := 58#8 }) := by decide

/-- P4, tick 1, with both sweeps due and one place short in the FIFO. -/
theorem test_sweep :
    (let t := { State.reset with
        seqState := .sweep
        host := { State.reset.host with
          now := 4000#32, pollInterval := 60#32, syncInterval := 3600#32, known := 0b10100#31 } }.sweepStep
            { vectorConfig with queueDepth := 3 };
      (t.q, t.overflow, t.reports.map (·.job), t.lastSync)) =
      ([0x00000300#32, 0x00000500#32, 0x00000301#32], true, [0x00000501#32], 4000#32) := by decide

/-- Lines of 30_encoding.md R107. -/
theorem test_text :
    readLine "settemp  3, 0x15, C  ; KIND 2".toList = some (.job (.setTemp 3#8 21#8 .celsius)) ∧
    readLine "hotwater 3, off".toList = some (.job (.setHotWater 3#8 false)) ∧
    readLine "reply 81 07".toList = some (.reply [0x81#8, 0x07#8]) ∧
    readLine "poll 256".toList = none ∧ readLine "discover".toList = none := by decide

end

/-! Witnesses: for every statement with hypotheses, a state and operands that meet them all. The invariant's fields are checked
by one function. -/

/-- The invariant's fields as one check, for a job of the class `c`; RX_LIMIT is left out. -/
def checkInv (c : EvalClass) (s : State) : Bool :=
  decide (s.q.length ≤ Config.ofBlock.queueDepth) && s.q.all legalWord &&
    (s.curJob.isSome == s.seqState.hasJob) &&
    (match s.curJob with
      | none => true
      | some w =>
        match decodeJob w with
        | .error _ => false
        | .ok i => !s.seqState.framed || (frameServes i s.txBuf && i.jobKind.all (fun k => decide (evalClass k = c)))) &&
    decide (s.txBuf.length ≤ Config.txMax) && decide (s.rxBuf.length < s.rxLimit) &&
    (decide (s.seqState ≠ .stopped) || (!s.tickPending && s.shutdownReq))

/-- The check gives the invariant when RX_LIMIT is that of the class. -/
theorem inv_of_check {s : State} (c : EvalClass) (h : checkInv c s = true) (limit : s.rxLimit = limitOf Config.ofBlock c) :
    Inv s := by
  simp only [checkInv, Bool.and_eq_true, Bool.or_eq_true, decide_eq_true_eq, beq_iff_eq, Bool.not_eq_true',
    List.all_eq_true] at h
  obtain ⟨⟨⟨⟨⟨⟨h2, h3⟩, h4⟩, h5⟩, h6⟩, h7⟩, h8⟩ := h
  have fits := limitOf_le_rxCapacity Config.ofBlock c
  have received : s.rxCount = s.rxBuf.length := rfl
  refine
    { queueBound := h2, queueLegal := h3, jobWindow := h4, txBound := h6, rxBound := by omega,
      limitBound := by omega, receiving := fun _ => h7, received := fun _ => Nat.le_of_lt h7,
      stopped := fun h => h8.resolve_left (fun c => c h), jobLegal := ?_, requestInFlight := ?_, limitInFlight := ?_ }
  · intro w hw
    rw [hw] at h5
    unfold legalWord
    cases hd : decodeJob w <;> simp_all
  · intro hf w i hw hd
    simp only [hw, hd, hf, Bool.not_true, Bool.false_or, Bool.and_eq_true] at h5
    exact h5.1
  · intro hf w i k hw hd hk
    simp only [hw, hd, hf, hk, Bool.not_true, Bool.false_or, Bool.and_eq_true, Option.all_some, decide_eq_true_eq] at h5
    rw [limit, h5.2]

section
set_option maxRecDepth 8000

/-- A poll about to be sent. -/
def sendPoll : State := { sendState 0x00000300#32 pollFrame Config.ofBlock.maxReply with schedule := [.block] }

/-- A poll whose reply has begun, and a hot-water write one byte short of its acknowledgement. -/
def receivePoll : State :=
  { receiveState 0x00000300#32 pollFrame Config.ofBlock.maxReply [0x81#8] with schedule := [.rxByte 0x37#8] }

def receiveWater : State := { receiveState 0x00010303#32 waterFrame 7 (ack.take 6) with schedule := [.rxByte 0x8D#8] }

/-- A poll with no reply, to be judged. -/
def evalPoll : State := { evalState 0x00000300#32 pollFrame Config.ofBlock.maxReply [] with schedule := [.block] }

/-- A tick with a job in the FIFO, after a write. -/
def idleTick : State := { State.reset with tickPending := true, q := [0x00000300#32], rxLimit := 7 }

/-- After a shutdown. -/
def stoppedState : State := { State.reset with seqState := .stopped, shutdownReq := true, schedule := [.tick] }

/-- The FIFO with no free entry. -/
def fullState : State := { State.reset with q := List.replicate Config.ofBlock.queueDepth 0x00000300#32 }

theorem fullState_length : fullState.q.length = Config.ofBlock.queueDepth := List.length_replicate

theorem inv_sendPoll : Inv sendPoll := inv_of_check .status (by decide) rfl

theorem inv_receivePoll : Inv receivePoll := inv_of_check .status (by decide) rfl

theorem inv_receiveWater : Inv receiveWater := inv_of_check .ack (by decide) rfl

theorem inv_evalPoll : Inv evalPoll := inv_of_check .status (by decide) rfl

theorem inv_idleTick : Inv idleTick := inv_of_check .ack (by decide) rfl

theorem witness_EncodeOfDecodeIsIdentity :
    decode (.job 0x00150302#32) = .ok (.setTemp 3#8 21#8 .celsius) ∧ decode (.func 0x01#8) = .ok .write := by decide

theorem witness_LegalWordSelectsExactlyOneRow :
    (State.reset.hostEnqueue vectorConfig 0x00000300#32).responses = State.reset.responses ++ [.accepted] := by decide

theorem witness_IllegalWordsAreRejected : legalWord 0x00000305#32 = false ∧ legalWord 0x00020303#32 = false := by decide

theorem witness_RequestFrameRoundTrip :
    [({ dest := 31#8, func := .read, start := 0#16, endField := 0xFFFF#16, payload := [] } : RequestFrame),
      { dest := 0xFF#8, func := .read, start := 0#16, endField := 0xFFFF#16, payload := [] },
      { dest := 1#8, func := .write, start := 42#16, endField := 1#16, payload := [0#8] },
      { dest := 1#8, func := .write, start := 43#16, endField := 4#16, payload := [7#8, 23#8, 59#8, 1#8] }].all
        (·.wellFormed) = true := by decide

theorem witness_StepRunsTheDecodedInstruction :
    ((execState 0x00000300#32).nextAction = .block ∧ (execState 0x00000300#32).curJob = some 0x00000300#32 ∧
      decode (.job 0x00000300#32) = .ok (.poll 3#8)) ∧
    (evalPoll.nextAction = .block ∧ evalPoll.seqState = .eval ∧ evalPoll.curJob = some 0x00000300#32) ∧
    (sendPoll.nextAction = .block ∧ sendPoll.seqState = .send ∧ sendPoll.txRead 3 = some 0x00#8 ∧
      decode (.func 0x00#8) = .ok .read) := by decide

theorem witness_BlockWaitsWhereNoStepIsEnabled :
    (State.reset.nextAction = .block ∧ State.reset.seqState = .idle ∧ State.reset.shutdownReq = false ∧
      State.reset.tickPending = false) ∧
    (let s := receiveState 0x00000300#32 pollFrame 64 []; s.nextAction = .block ∧ s.seqState = .receive) ∧
    (let s := { stoppedState with schedule := [.block] }; s.nextAction = .block ∧ s.seqState = .stopped) := by decide

theorem witness_EveryStepKeepsTheInvariant : Inv receiveWater ∧ ∃ t, step receiveWater = .next t :=
  ⟨inv_receiveWater, _, rfl⟩

theorem witness_NoStepStopsUnderTheInvariant : Inv sendPoll := inv_sendPoll

theorem witness_EveryStepKeepsReportsSound :
    Inv evalPoll ∧ ReportsSound evalPoll ∧ ∃ t, step evalPoll = .next t :=
  ⟨inv_evalPoll, fun _ hr => absurd hr (List.not_mem_nil), _, rfl⟩

theorem witness_EveryStepKeepsSentFramesLegal :
    Inv sendPoll ∧ SentLegal sendPoll ∧ ∃ t, step sendPoll = .next t :=
  ⟨inv_sendPoll, fun _ hr => absurd hr (List.not_mem_nil), _, rfl⟩

/-- Out of EVAL, out of IDLE by each of its edges, out of EXEC by both, out of RECEIVE by the last byte and by the timeout. -/
theorem witness_SeqStateMovesAlongTheEdges :
    ((∃ t, step evalPoll = .next t) ∧ evalPoll.nextAction = .block ∧ evalPoll.seqState = .eval) ∧
    (∃ t, step idleTick = .next t ∧ t.seqState = .exec) ∧
    (∃ t, step { idleTick with q := [] } = .next t ∧ t.seqState = .sweep) ∧
    (∃ t, step { idleTick with shutdownReq := true } = .next t ∧ t.seqState = .stopped) ∧
    (∃ t, step (execState 0x00000300#32) = .next t ∧ t.seqState = .send) ∧
    (∃ t, step (execState 0x00000000#32) = .next t ∧ t.seqState = .sweep) ∧
    (∃ t, step receiveWater = .next t ∧ t.seqState = .eval) ∧
    (∃ t, step { receivePoll with schedule := [.rxTimeout] } = .next t ∧ t.seqState = .eval) :=
  ⟨⟨⟨_, rfl⟩, rfl, rfl⟩, ⟨_, rfl, rfl⟩, ⟨_, rfl, rfl⟩, ⟨_, rfl, rfl⟩, ⟨_, rfl, rfl⟩, ⟨_, rfl, rfl⟩, ⟨_, rfl, rfl⟩,
    _, rfl, rfl⟩

theorem witness_StoppedIsLeftByResetOnly :
    stoppedState.seqState = .stopped ∧ stoppedState.nextAction ≠ .reset ∧ ∃ t, step stoppedState = .next t :=
  ⟨rfl, by decide, _, rfl⟩

/-- Accepted, refused because full, and refused as illegal. -/
theorem witness_EnqueueAnswers :
    ({ State.reset with schedule := [.enqueue 0x00000300#32] }.schedule = .enqueue 0x00000300#32 :: [] ∧
      wellFormedWord 0x00000300#32 = true ∧ State.reset.q.length < Config.ofBlock.queueDepth) ∧
    (wellFormedWord 0x00000300#32 = true ∧ ¬ fullState.q.length < Config.ofBlock.queueDepth) ∧
    wellFormedWord 0x00000305#32 = false :=
  ⟨by decide, ⟨by decide, by rw [fullState_length]; exact Nat.lt_irrefl _⟩, by decide⟩

theorem witness_TickIsLatched :
    ({ State.reset with schedule := [.tick] }.schedule = .tick :: [] ∧ State.reset.seqState ≠ .stopped) ∧
    (stoppedState.schedule = .tick :: [] ∧ stoppedState.seqState = .stopped) := by decide

theorem witness_ShutdownAndInputsAreLatched :
    { State.reset with schedule := [.shutdown] }.schedule = .shutdown :: [] ∧
    { State.reset with schedule := [.drive State.reset.host] }.schedule = .drive State.reset.host :: [] := by decide

/-- A pending shutdown; a pending overflow; a refused ENQUEUE that sets OVERFLOW. -/
theorem witness_OnlyResetClearsStickyFlags :
    (stoppedState.nextAction ≠ .reset ∧ stoppedState.shutdownReq = true ∧ ∃ t, step stoppedState = .next t) ∧
    (∃ t, step { idleTick with overflow := true } = .next t) ∧
    (fullState.overflow = false ∧
      ∃ t, step { fullState with schedule := [.enqueue 0x00000300#32] } = .next t ∧ t.overflow = true) ∧
    (legalWord 0x00000300#32 = true ∧ Config.ofBlock.queueDepth ≤ fullState.q.length) := by
  refine ⟨⟨by decide, rfl, _, rfl⟩, ⟨_, rfl⟩, ⟨rfl, _, rfl, ?_⟩, by decide, fullState_length.ge⟩
  rcases State.hostEnqueue_cases ({ fullState with schedule := [.enqueue 0x00000300#32] } : State).popAction
    Config.ofBlock 0x00000300#32 with ⟨-, h, -⟩ | ⟨-, -, h⟩ | ⟨h, -⟩
  · exact absurd h (Nat.not_lt.2 fullState_length.ge)
  · exact h ▸ rfl
  · exact absurd h (by decide)

theorem witness_TickIsConsumedOnlyInIdle :
    idleTick.tickPending = true ∧ ∃ t, step idleTick = .next t ∧ t.tickPending = false := ⟨rfl, _, rfl, rfl⟩

theorem witness_ResetEffect : { evalPoll with schedule := [.reset] }.schedule = .reset :: [] := rfl

theorem witness_BytesAreKeptOnlyInReceive :
    ({ State.reset with schedule := [.rxByte 0x81#8] }.schedule = .rxByte 0x81#8 :: [] ∧
      State.reset.seqState ≠ .receive) ∧
    (receivePoll.schedule = .rxByte 0x37#8 :: [] ∧ Inv receivePoll ∧ receivePoll.seqState = .receive) :=
  ⟨by decide, rfl, inv_receivePoll, rfl⟩

/-- The byte that reaches RX_LIMIT, and one that does not. -/
theorem witness_ReceivingAByte :
    (receiveWater.schedule = .rxByte 0x8D#8 :: [] ∧ Inv receiveWater ∧ receiveWater.seqState = .receive ∧
      receiveWater.rxCount + 1 = receiveWater.rxLimit) ∧
    (receivePoll.schedule = .rxByte 0x37#8 :: [] ∧ Inv receivePoll ∧ receivePoll.seqState = .receive ∧
      receivePoll.rxCount + 1 ≠ receivePoll.rxLimit) :=
  ⟨⟨rfl, inv_receiveWater, rfl, rfl⟩, rfl, inv_receivePoll, rfl, by decide⟩

theorem witness_TimeoutEndsReception :
    ({ receivePoll with schedule := [.rxTimeout] }.schedule = .rxTimeout :: [] ∧ receivePoll.seqState = .receive) ∧
    ({ evalPoll with schedule := [.rxTimeout] }.schedule = .rxTimeout :: [] ∧ evalPoll.seqState ≠ .receive) := by decide

theorem witness_TickStartsOneJob :
    (idleTick.nextAction = .block ∧ idleTick.seqState = .idle ∧ idleTick.shutdownReq = false ∧
      idleTick.tickPending = true ∧ idleTick.q = 0x00000300#32 :: []) ∧
    { idleTick with q := [] }.q = [] := by decide

theorem witness_ShutdownStopsInIdle :
    let s := { idleTick with shutdownReq := true }
    s.nextAction = .block ∧ s.seqState = .idle ∧ s.shutdownReq = true := by decide

/-- The addresses at the ends of each clause's range; EXEC and EVAL. -/
theorem witness_PollHalves :
    ((execState 0x00000100#32).curJob = some 0x00000100#32 ∧ (execState 0x00000100#32).seqState = .exec) ∧
    (1 ≤ (1#8).toNat ∧ (1#8).toNat ≤ 31) ∧ (1 ≤ (31#8).toNat ∧ (31#8).toNat ≤ 31) ∧
    ((0#8).toNat = 0 ∧ 32 ≤ (32#8).toNat ∧ 32 ≤ (255#8).toNat) ∧
    (evalPoll.curJob = some 0x00000300#32 ∧ evalPoll.seqState = .eval) := by decide

theorem witness_ProbeHalves :
    ((execState 0x0000FF04#32).curJob = some 0x0000FF04#32 ∧ (execState 0x0000FF04#32).seqState = .exec) ∧
    (1 ≤ (1#8).toNat ∧ (31#8).toNat ≤ 31 ∧ (255#8).toNat = 255) ∧
    ((0#8).toNat = 0 ∧ 32 ≤ (32#8).toNat ∧ 32 ≤ (254#8).toNat ∧ (254#8).toNat ≤ 254) ∧
    (let s := evalState 0x0000FF04#32 probeFrame 64 []; s.curJob = some 0x0000FF04#32 ∧ s.seqState = .eval) := by decide

theorem witness_SyncClockHalves :
    ((execState 0x00000501#32).curJob = some 0x00000501#32 ∧ (execState 0x00000501#32).seqState = .exec) ∧
    (1 ≤ (1#8).toNat ∧ (31#8).toNat ≤ 31) ∧ ((0#8).toNat = 0 ∧ 32 ≤ (32#8).toNat ∧ 32 ≤ (255#8).toNat) ∧
    (let s := evalState 0x00000501#32 syncFrame 7 ack; s.curJob = some 0x00000501#32 ∧ s.seqState = .eval) := by decide

/-- Both ends of both ranges, and the values next to them (RNG-1 to RNG-8). -/
theorem witness_SetTempHalves :
    ((execState 0x0029030A#32).curJob = some 0x0029030A#32 ∧ (execState 0x0029030A#32).seqState = .exec) ∧
    (1 ≤ (3#8).toNat ∧ (3#8).toNat ≤ 31) ∧
    (5 ≤ (5#8).toNat ∧ (35#8).toNat ≤ 35 ∧ 41 ≤ (41#8).toNat ∧ (95#8).toNat ≤ 95) ∧
    ((4#8).toNat < 5 ∧ 35 < (36#8).toNat ∧ (40#8).toNat < 41 ∧ 95 < (96#8).toNat) ∧
    ((0#8).toNat = 0 ∧ 32 ≤ (32#8).toNat) ∧
    (let s := evalState 0x0029030A#32 tempFrame 7 ack; s.curJob = some 0x0029030A#32 ∧ s.seqState = .eval) := by decide

theorem witness_SetHotWaterHalves :
    ((execState 0x00010303#32).curJob = some 0x00010303#32 ∧ (execState 0x00010303#32).seqState = .exec) ∧
    (1 ≤ (1#8).toNat ∧ (31#8).toNat ≤ 31) ∧ ((0#8).toNat = 0 ∧ 32 ≤ (32#8).toNat ∧ 32 ≤ (255#8).toNat) ∧
    (let s := evalState 0x00010303#32 waterFrame 7 ack; s.curJob = some 0x00010303#32 ∧ s.seqState = .eval) := by decide

theorem witness_ReadAndWriteSendTheFrame : sendPoll.seqState = .send := rfl

theorem witness_InstructionsFaultOutsideTheirState :
    ((Instr.poll 3#8).jobKind = some .poll ∧ sendPoll.seqState ≠ .exec ∧ sendPoll.seqState ≠ .eval) ∧
    ({ State.reset with seqState := .exec }.seqState = .exec ∧ { State.reset with seqState := .exec }.curJob = none) ∧
    State.reset.seqState ≠ .send := by decide

theorem inv_send_tempFrame : Inv (sendState 0x0029030A#32 tempFrame 7) := inv_of_check .ack (by decide) rfl

theorem inv_send_syncFrame : Inv (sendState 0x00000501#32 syncFrame 7) := inv_of_check .ack (by decide) rfl

theorem inv_send_waterFrame : Inv (sendState 0x00010303#32 waterFrame 7) := inv_of_check .ack (by decide) rfl

theorem inv_send_probeFrame : Inv (sendState 0x0000FF04#32 probeFrame Config.ofBlock.maxReply) :=
  inv_of_check .status (by decide) rfl

/-- One state of each kind. -/
theorem witness_FunctionByteMatchesTheJob :
    (Inv sendPoll ∧ sendPoll.seqState = .send ∧ sendPoll.curJob = some 0x00000300#32 ∧
      decodeJob 0x00000300#32 = .ok (.poll 3#8) ∧ evalClass .poll = .status) ∧
    (Inv (sendState 0x0000FF04#32 probeFrame Config.ofBlock.maxReply) ∧
      decodeJob 0x0000FF04#32 = .ok (.probe 0xFF#8) ∧ evalClass .probe = .status) ∧
    (Inv (sendState 0x00010303#32 waterFrame 7) ∧
      decodeJob 0x00010303#32 = .ok (.setHotWater 3#8 true) ∧ evalClass .setHotWater = .ack) ∧
    (Inv (sendState 0x0029030A#32 tempFrame 7) ∧
      decodeJob 0x0029030A#32 = .ok (.setTemp 3#8 41#8 .fahrenheit) ∧ evalClass .setTemp = .ack) ∧
    (Inv (sendState 0x00000501#32 syncFrame 7) ∧ decodeJob 0x00000501#32 = .ok (.syncClock 5#8)) :=
  ⟨⟨inv_sendPoll, by decide⟩, ⟨inv_send_probeFrame, by decide⟩, ⟨inv_send_waterFrame, by decide⟩,
    ⟨inv_send_tempFrame, by decide⟩, inv_send_syncFrame, by decide⟩

theorem witness_OnlySendWritesTheBus : ∃ t, step sendPoll = .next t ∧ t.sent = [pollFrame] := ⟨_, rfl, rfl⟩

/-- Each result at the shortest reply that gives it (DEC-1 to DEC-5). -/
theorem witness_DecodeReplyResults :
    ([] : List Byte).length = 0 ∧ [0x81#8].length = 1 ∧ [0x81#8, 0x37#8].length = 2 ∧
    (3 ≤ [0x01#8, 0xF1#8, 0xD1#8].length ∧ verifyCRC [0x01#8, 0xF1#8, 0xD1#8] = false) ∧
    (3 ≤ [0x01#8, 0xD1#8, 0xF1#8].length ∧ verifyCRC [0x01#8, 0xD1#8, 0xF1#8] = true) := by decide

/-- DEC-1, DEC-2, DEC-4, DEC-5 and DEC-9. -/
theorem witness_StatusReplyJudgement :
    decodeReply [] = .emptyNone ∧ decodeReply [0x81#8] = .emptyShort ∧
    decodeReply [0x01#8, 0xF1#8, 0xD1#8] = .badCrc ∧
    (decodeReply [0x01#8, 0xD1#8, 0xF1#8] = .valid ∧
      parseStatusBlock [0x01#8, 0xD1#8, 0xF1#8] = .error .header) ∧
    (decodeReply prtReply = .valid ∧ ∃ r, parseStatusBlock prtReply = .ok r) :=
  ⟨by decide, by decide, by decide, ⟨by decide, rfl⟩, by decide, _, rfl⟩

/-- ACK-5, ACK-6, ACK-8, ACK-10 and ACK-9. -/
theorem witness_AcknowledgementJudgement :
    ([] : List Byte).length = 0 ∧ (1 ≤ [0x81#8].length ∧ [0x81#8].length < 7) ∧
    (1 ≤ (ack.take 6).length ∧ (ack.take 6).length < 7) ∧
    (7 ≤ (ack.take 5 ++ [0x8D#8, 0xD2#8]).length ∧ verifyCRC (ack.take 5 ++ [0x8D#8, 0xD2#8]) = false) ∧
    (7 ≤ ack.length ∧ verifyCRC ack = true) := by decide

theorem witness_InternalEnqueue :
    State.reset.q.length < vectorConfig.queueDepth ∧
    ¬ idleTick.q.length < { vectorConfig with queueDepth := 1 }.queueDepth := by decide

/-- A step that ends a job, and one that pops a job. -/
theorem witness_EveryPoppedJobIsReportedOnce :
    (Inv evalPoll ∧ evalPoll.nextAction ≠ .reset ∧ ∃ t, step evalPoll = .next t) ∧
    (Inv idleTick ∧ idleTick.nextAction ≠ .reset ∧
      ∃ t, step idleTick = .next t ∧ idleTick.seqState = .idle ∧ t.seqState = .exec) :=
  ⟨⟨inv_evalPoll, by decide, _, rfl⟩, inv_idleTick, by decide, _, rfl, rfl, rfl⟩

theorem witness_FifoKeepsItsOrder :
    idleTick.nextAction ≠ .reset ∧ ∃ t, step idleTick = .next t ∧ t.curJob = some 0x00000300#32 :=
  ⟨by decide, _, rfl, rfl⟩

theorem witness_SweepStep :
    let s := { State.reset with seqState := .sweep }
    s.nextAction = .block ∧ s.seqState = .sweep := by decide

theorem witness_SecondAdjustment :
    (0#8).toNat ≤ 57 ∧ (57#8).toNat ≤ 57 ∧ 58 ≤ (58#8).toNat ∧ 58 ≤ (255#8).toNat := by decide

theorem witness_ParsedFieldsComeFromTheRom : ∃ r, parseStatusBlock prtReply = .ok r := ⟨_, rfl⟩

/-- V-DCB-2 with unread bytes changed. -/
def prthwOther : List Byte :=
  (((prthwReply.set 0 0xFF#8).set 4 0xFF#8).set 8 0xFF#8).set 20 0xFF#8

theorem witness_UnreadBytesDoNotMatter :
    prthwReply.length = prthwOther.length ∧ prthwReply ≠ prthwOther ∧
    ∀ i, i ≠ 0 → ¬ (4 ≤ i ∧ i ≤ 8) → i ≠ 9 + 11 → i ≠ 9 + 34 →
      i ≤ maxIndex (layoutOf (prthwReply.getD 13 0#8)) → prthwReply[i]? = prthwOther[i]? := by
  refine ⟨by decide, by decide, fun i h0 h4 h20 h43 hi => ?_⟩
  have small : ∀ i < 50, i = 0 ∨ (4 ≤ i ∧ i ≤ 8) ∨ i = 20 ∨ i = 43 ∨ prthwReply[i]? = prthwOther[i]? := by decide
  have last : maxIndex (layoutOf (prthwReply.getD 13 0#8)) = 49 := by decide
  have := small i (by omega)
  tauto

theorem witness_TemperatureReading : (0xFFFF#16).toNat = 65535 ∧ (0xFFFE#16).toNat ≠ 65535 := by decide

theorem witness_AppendCrcEffect :
    [0xAA#8].length < 2 ∧ 2 ≤ [0xAA#8, 0xBB#8].length ∧ 2 ≤ [0x00#8, 0xAA#8, 0xBB#8].length := by decide

/-- CRC-10 and CRC-12. -/
theorem witness_AppendThenVerify :
    (appendCRC [0x00#8, 0xAA#8, 0xBB#8] = some [0x00#8, 0xF0#8, 0xE1#8] ∧ 3 ≤ [0x00#8, 0xAA#8, 0xBB#8].length) ∧
    (appendCRC [0xAA#8, 0xBB#8] = some [0xFF#8, 0xFF#8] ∧ [0xAA#8, 0xBB#8].length = 2) := by decide

theorem witness_BuiltFramesVerify :
    ((none : Option (List Byte)).getD []).length ≤ 245 ∧
    ((some (List.replicate 245 0#8)).getD []).length ≤ 245 ∧
    ({ dest := 1#8, func := .write, start := 43#16, endField := 4#16, payload := [7#8, 23#8, 59#8, 1#8] }
      : RequestFrame).wellFormed = true := by decide

theorem witness_CrcAccumulatorsAreNeverRead : ∃ t, step evalPoll = .next t := ⟨_, rfl⟩

theorem witness_ParametersAreLegalAndInputsTheHosts :
    ∃ t, step { State.reset with schedule := [.drive { State.reset.host with now := 1#32 }] } = .next t ∧
      t.host.now = 1#32 := ⟨_, rfl, rfl⟩

/-- A reply for each CAUSE. -/
theorem witness_OutcomeCodesAndRetryTable :
    judge .ack [] = .noReply .timeout ∧ judge .status [0x81#8] = .noReply .empty ∧
    judge .ack (ack.take 5 ++ [0x8D#8, 0xD2#8]) = .noReply .checksum := by decide

/-- A poll whose reply of two bytes ends by the timeout, with host steps and a stray byte beside it; and a write whose
acknowledgement ends at RX_LIMIT, with no timeout (ACK-9). -/
theorem witness_EveryTransactionEnds :
    (let s := { sendPoll with schedule :=
        [.rxByte 0xFF#8, .block, .rxByte 0x81#8, .tick, .rxByte 0x37#8, .rxTimeout, .enqueue 0x00000300#32, .block,
          .shutdown, .block] };
      Inv s ∧ s.seqState = .send ∧
        (∀ a ∈ [Machine.Action.rxByte 0xFF#8] ++
          [.rxByte 0x81#8, .tick, .rxByte 0x37#8, .rxTimeout, .enqueue 0x00000300#32] ++ [.shutdown],
          besideTheBlock a = true) ∧
        Machine.Action.rxTimeout ∈
          [.rxByte 0x81#8, .tick, .rxByte 0x37#8, .rxTimeout, .enqueue 0x00000300#32] ∧
        s.schedule = [.rxByte 0xFF#8] ++ .block ::
          ([.rxByte 0x81#8, .tick, .rxByte 0x37#8, .rxTimeout, .enqueue 0x00000300#32] ++
            .block :: ([.shutdown] ++ [.block]))) ∧
    (let s := { sendState 0x00010303#32 waterFrame 7 with schedule := .block :: (ack.map .rxByte ++ [.block, .block]) };
      Inv s ∧ s.seqState = .send ∧
        (∀ a ∈ [] ++ ack.map Machine.Action.rxByte ++ [], besideTheBlock a = true) ∧
        s.rxLimit ≤ (bytesBeforeTimeout (ack.map .rxByte)).length ∧
        s.schedule = [] ++ .block :: (ack.map .rxByte ++ .block :: ([] ++ [.block]))) :=
  ⟨⟨inv_of_check .status (by decide) rfl, rfl, by decide, by decide, rfl⟩,
    inv_of_check .ack (by decide) rfl, rfl, by decide, by decide, rfl⟩

end

end Sys2Proof.Tests
end

/-! Scope (00_scope.md): the parameters are legal, and the host's sampled inputs are the host's alone. -/

namespace Sys2Proof

/-- The configuration of the block is one that R10 calls legal. -/
theorem Config.ofBlock_legal : Config.ofBlock.legal = true := by
  simp [Config.legal, Config.ofBlock]

/-- What `legal` checks (R10). -/
theorem Config.legal_iff (c : Config) : c.legal = true ↔ 3 ≤ c.maxReply ∧ 1 ≤ c.queueDepth := by
  simp [Config.legal]

namespace Machine

@[simp] theorem State.resetBlock_host (s : State) : s.resetBlock.host = s.host := rfl

@[simp] theorem State.rxTimeout_host (s : State) : s.rxTimeout.host = s.host := by
  unfold State.rxTimeout
  split <;> rfl

/-- A frame that EXEC hands to SEND is one loaded request, whatever the job's kind (44_sequencer.md R236). -/
theorem prepareOf_frame {i : Instr} {cfg : Config} {s t : State} (h : prepareOf i cfg s = .frame t) :
    ∃ c d a e p, t = s.loadRequest cfg c d a e p := by
  cases i with
  | poll a =>
    rcases preparePoll_cases a cfg s with ⟨-, hp⟩ | ⟨-, hp⟩ <;> cases hp.symm.trans h
    exact ⟨_, _, _, _, _, rfl⟩
  | syncClock a =>
    rcases prepareSyncClock_cases a cfg s with ⟨-, hp⟩ | ⟨-, hp⟩ <;> cases hp.symm.trans h
    exact ⟨_, _, _, _, _, rfl⟩
  | setTemp a d u =>
    rcases prepareSetTemp_cases a d u cfg s with ⟨-, -, hp⟩ | ⟨-, -, hp⟩ | ⟨-, hp⟩ <;> cases hp.symm.trans h
    exact ⟨_, _, _, _, _, rfl⟩
  | setHotWater a on =>
    rcases prepareSetHotWater_cases a on cfg s with ⟨-, hp⟩ | ⟨-, hp⟩ <;> cases hp.symm.trans h
    exact ⟨_, _, _, _, _, rfl⟩
  | probe a =>
    rcases prepareProbe_cases a cfg s with ⟨-, hp⟩ | ⟨-, hp⟩ <;> cases hp.symm.trans h
    exact ⟨_, _, _, _, _, rfl⟩
  | read => cases h
  | write => cases h

/-- The EXEC half only reads the host's inputs: SYNC_CLOCK samples WALLCLOCK (R212). -/
@[simp] theorem State.execHalf_prepareOf_host (s : State) (cfg : Config) (k : JobKind) (w : JobWord) (i : Instr) :
    (s.execHalf cfg k w (prepareOf i cfg s)).host = s.host := by
  rcases s.execHalf_cases cfg k w (prepareOf i cfg s) with ⟨r, -, he⟩ | ⟨t, hp, he⟩
  · rw [he, State.endJob_host]
  · obtain ⟨c, d, a, e, p, rfl⟩ := prepareOf_frame hp
    rw [he, withSeq_host, State.loadRequest_host]

@[simp] theorem State.evalHalf_host (s : State) (cfg : Config) (k : JobKind) (w : JobWord) :
    (s.evalHalf cfg k w).host = s.host := by
  simp [State.evalHalf]

/-- No BLOCK step changes the host's inputs, in any SEQ_STATE (10_state.md R26). -/
theorem blockStep_host {s t : State} (h : blockStep s = .next t) : t.host = s.host := by
  rcases blockStep_cases h with ⟨-, rfl⟩ | ⟨-, w, i, k, -, -, -, rfl⟩ | ⟨-, -, rfl⟩ | ⟨-, rfl⟩ |
    ⟨-, w, i, k, -, -, -, rfl⟩ | ⟨-, rfl⟩ | ⟨-, rfl⟩
  · exact s.idleStep_host
  · exact s.execHalf_prepareOf_host _ k w i
  · exact s.sendFrame_host
  · rfl
  · exact s.evalHalf_host _ k w
  · exact s.sweepStep_host _
  · rfl

/-- A byte from the channel leaves the host's inputs, kept or discarded (R241). -/
theorem State.rxByte_host {s t : State} {b : Byte} (h : s.rxByte Config.ofBlock b = .next t) : t.host = s.host := by
  rcases State.rxByte_cases h with ⟨-, -, rfl⟩ | ⟨-, rfl⟩
  · exact s.storeByte_host b
  · rfl

/-- The host's own drive is the only step that changes its inputs (10_state.md R26; log 4). -/
theorem step_host {s t : State} (h : step s = .next t) :
    t.host = s.host ∨ ∃ i, s.nextAction = .drive i ∧ t.host = i := by
  rcases step_cases h with ⟨-, hb⟩ | ⟨w, -, rfl⟩ | ⟨-, rfl⟩ | ⟨-, rfl⟩ | ⟨-, rfl⟩ | ⟨i, ha, rfl⟩ | ⟨b, -, hr⟩ | ⟨-, rfl⟩
  · exact .inl (by rw [blockStep_host hb, State.popAction_host])
  · exact .inl (by rw [State.hostEnqueue_host, State.popAction_host])
  · exact .inl (by rw [State.tick_host, State.popAction_host])
  · exact .inl (by rw [State.shutdown_host, State.popAction_host])
  · exact .inl (by rw [State.resetBlock_host, State.popAction_host])
  · exact .inr ⟨i, ha, rfl⟩
  · exact .inl (by rw [State.rxByte_host hr, State.popAction_host])
  · exact .inl (by rw [State.rxTimeout_host, State.popAction_host])

end Machine

/-- Settles O58: the configuration is legal by its making, and the host's inputs are a frame of every step but the drive. -/
theorem parametersAreLegalAndInputsTheHosts : Obligations.ParametersAreLegalAndInputsTheHosts :=
  ⟨(Config.legal_iff _).1 Config.ofBlock_legal, fun _ _ h => Machine.step_host h⟩

end Sys2Proof

/-! State (10_state.md): what every step of every agent keeps, latches and leaves unread. -/

namespace Sys2Proof.Machine

/-! The request frames of the jobs: EXEC builds one that reads back as its fields and serves its job (30_encoding.md R103). -/

theorem funcByte_payloadOf (f : RequestFrame) : frameFuncOf (funcByte (payloadOf f)) = some f.func := by
  unfold payloadOf
  cases f.func <;> rfl

/-- The payload field of a frame is what its bytes carry: a well-formed READ has none (30_encoding.md R92). -/
theorem payloadBytes_payloadOf {f : RequestFrame} (h : f.wellFormed = true) : payloadBytes (payloadOf f) = f.payload := by
  unfold payloadOf
  cases hf : f.func with
  | read =>
    simp only [RequestFrame.wellFormed, hf, Bool.and_eq_true, beq_iff_eq, List.length_eq_zero_iff] at h
    exact h.2.2.symm
  | write => rfl

/-- A request of the block carries at most the four bytes of SYNC_CLOCK (30_encoding.md R93). -/
theorem wellFormed_payload_length {f : RequestFrame} (h : f.wellFormed = true) : f.payload.length ≤ 4 := by
  unfold RequestFrame.wellFormed at h
  cases hf : f.func <;> simp only [hf, Bool.and_eq_true, Bool.or_eq_true, beq_iff_eq] at h <;> omega

/-- Reading a request back from its bytes gives its fields (30_encoding.md R90). -/
theorem decodeRequest_encodeRequest {f : RequestFrame} (h : f.wellFormed = true) :
    decodeRequest (encodeRequest f) = some f := by
  have short := wellFormed_payload_length h
  have verified : verifyCRC (encodeRequest f) = true := verifyCRC_sealBody (by simp; omega)
  have len : (encodeRequest f).length = 10 + f.payload.length := by
    rw [encodeRequest, buildFrame_length, payloadBytes_payloadOf h]
  have lenByte : (BitVec.ofNat 8 (10 + f.payload.length)).toNat = 10 + f.payload.length :=
    (BitVec.toNat_ofNat _ 8).trans (Nat.mod_eq_of_lt (by omega))
  simp only [encodeRequest, buildFrame, requestBody, sealBody, payloadBytes_payloadOf h, List.cons_append,
    List.nil_append] at verified len ⊢
  rw [decodeRequest, if_pos ⟨by omega, lenByte.trans len.symm, rfl, verified⟩, funcByte_payloadOf]
  simp [crcBody]

/-- The read request of a bus address is one the block sends (43_dispatcher.md R205, R208). -/
theorem sentByBlock_read {a : Byte} (h : busAddress a = true) :
    sentByBlock { dest := a, func := .read, start := 0x0000#16, endField := 0xFFFF#16, payload := [] } = true := by
  simp [sentByBlock, RequestFrame.wellFormed, h]

/-- The addresses a PROBE may name are the bus's (20_memory.md R64, 43_dispatcher.md R201). -/
theorem busAddress_eq_probeAddress (a : Byte) : busAddress a = probeAddress a := by
  simp only [busAddress, probeAddress, deviceAddress, Bool.decide_and, beq_eq_decide]

theorem busAddress_of_deviceAddress {a : Byte} (h : deviceAddress a = true) : busAddress a = true := by
  rw [busAddress_eq_probeAddress, probeAddress, h, Bool.true_or]

/-- A frame that EXEC hands to SEND holds the fields of the job's request, and RX_LIMIT is that of the job's class
(30_encoding.md R103, 43_dispatcher.md R200). -/
theorem prepareOf_request {i : Instr} {k : JobKind} (hk : i.jobKind = some k) {cfg : Config} {s t : State}
    (h : prepareOf i cfg s = .frame t) :
    ∃ f : RequestFrame, sentByBlock f = true ∧ requestServes i f = true ∧
      t = s.loadRequest cfg (evalClass k) f.dest f.start f.endField (payloadOf f) := by
  cases i with
  | poll a =>
    cases hk
    rcases preparePoll_cases a cfg s with ⟨ha, hp⟩ | ⟨-, hp⟩ <;> cases hp.symm.trans h
    exact ⟨_, sentByBlock_read (busAddress_of_deviceAddress ha), beq_self_eq_true _, rfl⟩
  | probe a =>
    cases hk
    rcases prepareProbe_cases a cfg s with ⟨ha, hp⟩ | ⟨-, hp⟩ <;> cases hp.symm.trans h
    exact ⟨_, sentByBlock_read ((busAddress_eq_probeAddress a).trans ha), beq_self_eq_true _, rfl⟩
  | syncClock a =>
    cases hk
    rcases prepareSyncClock_cases a cfg s with ⟨ha, hp⟩ | ⟨-, hp⟩ <;> cases hp.symm.trans h
    refine ⟨⟨a, .write, 43#16, 4#16, clockPayload cfg.clockWrap s.host.wallclock⟩, ?_, ?_, rfl⟩
    · simp [sentByBlock, RequestFrame.wellFormed, busAddress_of_deviceAddress ha, ha, clockPayload]
    · simp [requestServes, clockPayload]
  | setTemp a v u =>
    cases hk
    rcases prepareSetTemp_cases a v u cfg s with ⟨ha, hv, hp⟩ | ⟨-, -, hp⟩ | ⟨-, hp⟩ <;> cases hp.symm.trans h
    refine ⟨⟨a, .write, 18#16, 1#16, tempPayload v⟩, ?_, beq_self_eq_true _, rfl⟩
    cases u <;> simp [sentByBlock, RequestFrame.wellFormed, busAddress_of_deviceAddress ha, ha, hv, tempPayload]
  | setHotWater a on =>
    cases hk
    rcases prepareSetHotWater_cases a on cfg s with ⟨ha, hp⟩ | ⟨-, hp⟩ <;> cases hp.symm.trans h
    refine ⟨⟨a, .write, 42#16, 1#16, hotWaterPayload on⟩, ?_, beq_self_eq_true _, rfl⟩
    cases on <;> simp [sentByBlock, RequestFrame.wellFormed, busAddress_of_deviceAddress ha, ha, hotWaterPayload]
  | read => cases hk
  | write => cases hk

/-- The bytes of a request that serves a job serve it, since they read back as its fields. -/
theorem frameServes_encodeRequest {i : Instr} {f : RequestFrame} (hf : sentByBlock f = true)
    (hi : requestServes i f = true) : frameServes i (encodeRequest f) = true := by
  have wf : f.wellFormed = true := (Bool.and_eq_true _ _ ▸ hf : _ ∧ _).1
  simp [frameServes, decodeRequest_encodeRequest wf, hf, hi]

/-- A request of the block fits TX_BUF (10_state.md R31, 41_frame_codec.md R142). -/
theorem encodeRequest_length_le {f : RequestFrame} (hf : sentByBlock f = true) :
    (encodeRequest f).length ≤ Config.txMax := by
  have wf : f.wellFormed = true := (Bool.and_eq_true _ _ ▸ hf : _ ∧ _).1
  have short := wellFormed_payload_length wf
  have txMax : Config.txMax = 14 := rfl
  rw [encodeRequest, buildFrame_length, payloadBytes_payloadOf wf]
  omega

/-! The invariant, operation by operation. -/

section InvOfUpdate
variable {s : State}

theorem Inv.popAction (h : Inv s) : Inv s.popAction := { h with }

theorem Inv.withHost (h : Inv s) (v : HostInputs) : Inv (s.withHost v) := { h with }

theorem Inv.withOverflow (h : Inv s) (v : Bool) : Inv (s.withOverflow v) := { h with }

theorem Inv.withCrc (h : Inv s) (v : CrcAcc) : Inv (s.withCrc v) := { h with }

theorem Inv.withLastPoll (h : Inv s) (v : BitVec 32) : Inv (s.withLastPoll v) := { h with }

theorem Inv.withLastSync (h : Inv s) (v : BitVec 32) : Inv (s.withLastSync v) := { h with }

theorem Inv.addReport (h : Inv s) (r : Report) : Inv (s.addReport r) := { h with }

theorem Inv.addResponse (h : Inv s) (r : EnqueueResponse) : Inv (s.addResponse r) := { h with }

/-- A tick may be cleared anywhere; only in STOPPED may none be set (R256). -/
theorem Inv.withTick (h : Inv s) {v : Bool} (hv : s.seqState = .stopped → v = false) : Inv (s.withTick v) :=
  { h with stopped := fun hs => ⟨hv hs, (h.stopped hs).2⟩ }

theorem Inv.shutdown (h : Inv s) : Inv s.shutdown :=
  { h with stopped := fun hs => ⟨(h.stopped hs).1, rfl⟩ }

/-- A legal word may go to the tail where the FIFO has a free entry (R33). -/
theorem Inv.pushJob (h : Inv s) {w : JobWord} (hw : legalWord w = true)
    (room : s.q.length < Config.ofBlock.queueDepth) : Inv (s.pushJob w) :=
  { h with
    queueBound := by rw [State.pushJob_q, List.length_append]; exact room
    queueLegal := by
      simp only [State.pushJob_q, List.mem_append, List.mem_singleton]
      rintro v (hv | rfl)
      · exact h.queueLegal v hv
      · exact hw }

end InvOfUpdate

/-- The invariant holds at reset (R44). -/
theorem inv_reset : Inv State.reset where
  queueBound := Nat.zero_le _
  queueLegal := by simp [State.reset]
  jobWindow := rfl
  jobLegal := nofun
  txBound := Nat.zero_le _
  rxBound := Nat.zero_le _
  limitBound := Nat.zero_le _
  requestInFlight := nofun
  limitInFlight := nofun
  receiving := nofun
  received := nofun
  stopped := nofun

theorem inv_resetBlock (s : State) : Inv s.resetBlock := { inv_reset with }

section InvOfOperation
variable {s : State}

theorem Inv.tick (h : Inv s) : Inv s.tick := by
  unfold State.tick
  split_ifs with hs
  · exact h
  · exact h.withTick (fun c => absurd c hs)

/-- Enqueue appends a legal word within the bound, or only reports its loss (R234). -/
theorem Inv.enqueue (h : Inv s) {w : JobWord} (hw : legalWord w = true) : Inv (s.enqueue Config.ofBlock w) := by
  rcases s.enqueue_cases Config.ofBlock w with ⟨room, he⟩ | ⟨-, he⟩ <;> rw [he]
  · exact h.pushJob hw room
  · exact (h.withOverflow true).addReport _

theorem Inv.enqueueAll {ws : List JobWord} (h : Inv s) (hw : ∀ w ∈ ws, legalWord w = true) :
    Inv (s.enqueueAll Config.ofBlock ws) := by
  induction ws generalizing s with
  | nil => exact h
  | cons w ws ih =>
    rw [s.enqueueAll_cons]
    exact ih (h.enqueue (hw w List.mem_cons_self)) (fun v hv => hw v (List.mem_cons_of_mem w hv))

/-- ENQUEUE lets in a legal word that finds a free entry, and nothing else (R22). -/
theorem Inv.hostEnqueue (h : Inv s) (w : JobWord) : Inv (s.hostEnqueue Config.ofBlock w) := by
  rcases s.hostEnqueue_cases Config.ofBlock w with ⟨hw, room, he⟩ | ⟨-, -, he⟩ | ⟨-, he⟩ <;> rw [he]
  · exact (h.pushJob hw room).addResponse _
  · exact (h.withOverflow true).addResponse _
  · exact h.addResponse _

/-- A sweep's word selects the row of its kind, so it is legal (30_encoding.md R108). -/
theorem legalWord_pollWord (a : Byte) : legalWord (pollWord a) = true := by
  have selected : pollWord a &&& 0xFFFF00FF#32 = 0x00000000#32 := by
    rw [show 0x00000000#32 = jobWord 0#3 0#1 0#8 0#8 by decide, selects_plain_iff]
    simp [pollWord]
  exact (legalWord_iff _).2 ⟨_, if_pos selected⟩

theorem legalWord_syncWord (a : Byte) : legalWord (syncWord a) = true := by
  have selected : syncWord a &&& 0xFFFF00FF#32 = 0x00000001#32 := by
    rw [show 0x00000001#32 = jobWord 1#3 0#1 0#8 0#8 by decide, selects_plain_iff]
    simp [syncWord]
  have other : ¬ syncWord a &&& 0xFFFF00FF#32 = 0x00000000#32 := by rw [selected]; decide
  exact (legalWord_iff _).2 ⟨_, (if_neg other).trans (if_pos selected)⟩

/-- A sweep enqueues legal words only (R247, R248). -/
theorem Inv.pollSweep (h : Inv s) : Inv (s.pollSweep Config.ofBlock) := by
  rcases s.pollSweep_cases Config.ofBlock with ⟨-, he⟩ | ⟨-, he⟩ <;> rw [he]
  · exact (h.withLastPoll _).enqueueAll (List.forall_mem_map.2 fun a _ => legalWord_pollWord a)
  · exact h

theorem Inv.syncSweep (h : Inv s) : Inv (s.syncSweep Config.ofBlock) := by
  rcases s.syncSweep_cases Config.ofBlock with ⟨-, he⟩ | ⟨-, he⟩ <;> rw [he]
  · exact (h.withLastSync _).enqueueAll (List.forall_mem_map.2 fun a _ => legalWord_syncWord a)
  · exact h

/-- CUR_JOB without a value fits every SEQ_STATE outside its window, STOPPED only after SHUTDOWN (R34, R256). -/
theorem Inv.leaveWindow (h : Inv s) {v : SeqState} (hv : v.hasJob = false)
    (stopped : v = .stopped → s.tickPending = false ∧ s.shutdownReq = true) :
    Inv ((s.withCurJob none).withSeq v) :=
  { h with
    jobWindow := hv.symm
    jobLegal := nofun
    requestInFlight := fun _ _ _ hw => nomatch hw
    limitInFlight := fun _ _ _ _ hw => nomatch hw
    receiving := by rintro rfl; cases hv
    received := by rintro rfl; cases hv
    stopped := stopped }

/-- Outside its window CUR_JOB holds no value (R34). -/
theorem Inv.withCurJob_none (h : Inv s) (hs : s.seqState.hasJob = false) : s.withCurJob none = s := by
  have empty : s.curJob = none := by simpa [hs] using h.jobWindow
  rw [← empty]
  rfl

/-- The SWEEP step enqueues and goes back to IDLE (R245). -/
theorem Inv.sweepStep (h : Inv s) (hs : s.seqState = .sweep) : Inv (s.sweepStep Config.ofBlock) := by
  have swept := h.pollSweep.syncSweep
  have outside : ((s.pollSweep Config.ofBlock).syncSweep Config.ofBlock).seqState.hasJob = false := by
    rw [State.syncSweep_seqState, State.pollSweep_seqState, hs]
    rfl
  have idle := swept.leaveWindow (v := .idle) rfl nofun
  rwa [swept.withCurJob_none outside] at idle

/-- The IDLE step: STOPPED with the tick cleared, a popped legal word in EXEC, or SWEEP (R232, R256). -/
theorem Inv.idleStep (h : Inv s) (hs : s.seqState = .idle) : Inv s.idleStep := by
  have cleared : Inv (s.withTick false) := h.withTick fun _ => rfl
  have outside : (s.withTick false).seqState.hasJob = false := by rw [State.withTick_seqState, hs]; rfl
  rcases s.idleStep_cases with ⟨hr, he⟩ | ⟨-, -, w, rest, hq, he⟩ | ⟨-, -, -, he⟩ | ⟨-, -, he⟩ <;> rw [he]
  · rw [← cleared.withCurJob_none outside]
    exact cleared.leaveWindow rfl fun _ => ⟨rfl, hr⟩
  · have bound := h.queueBound
    have legal := h.queueLegal
    rw [hq] at bound legal
    exact
      { h with
        queueBound := (Nat.le_succ _).trans bound
        queueLegal := fun v hv => legal v (List.mem_cons_of_mem w hv)
        jobWindow := rfl
        jobLegal := fun v hv => Option.some.inj hv ▸ legal w List.mem_cons_self
        requestInFlight := nofun
        limitInFlight := nofun
        receiving := nofun
        received := nofun
        stopped := nofun }
  · rw [← cleared.withCurJob_none outside]
    exact cleared.leaveWindow rfl nofun
  · exact h

/-- A job that ends goes back to the FIFO or not, and leaves CUR_JOB without a value (60_exceptions.md R275). -/
theorem Inv.endJob (h : Inv s) {w : JobWord} (hw : legalWord w = true) (k : JobKind) (r : JobResult) :
    Inv (s.endJob Config.ofBlock k w r) := by
  have reported := h.addReport (jobReport k w r (s.requeues Config.ofBlock k r))
  refine Inv.leaveWindow ?_ rfl nofun
  rcases (s.addReport _).retryJob_cases Config.ofBlock k w r with ⟨-, he⟩ | ⟨-, he⟩ <;> rw [he]
  · exact reported.enqueue hw
  · exact reported

/-- The EXEC half ends the job early, or puts its request and the limit of its class in place (R236, R237). -/
theorem Inv.execHalf (h : Inv s) (hs : s.seqState = .exec) {w : JobWord} {i : Instr} {k : JobKind}
    (hw : s.curJob = some w) (hi : decodeJob w = .ok i) (hk : i.jobKind = some k) :
    Inv (s.execHalf Config.ofBlock k w (prepareOf i Config.ofBlock s)) := by
  rcases s.execHalf_cases Config.ofBlock k w (prepareOf i Config.ofBlock s) with ⟨r, -, he⟩ | ⟨t, hp, he⟩ <;> rw [he]
  · exact h.endJob (h.jobLegal w hw) k r
  · obtain ⟨f, sent, serves, rfl⟩ := prepareOf_request hk hp
    exact
      { h with
        jobWindow := h.jobWindow.trans (by rw [hs]; rfl)
        txBound := encodeRequest_length_le sent
        limitBound := limitOf_le_rxCapacity _ _
        requestInFlight := by
          intro _ v j hv hj
          obtain rfl := Option.some.inj (hw.symm.trans hv)
          obtain rfl := Except.ok.inj (hi.symm.trans hj)
          exact frameServes_encodeRequest sent serves
        limitInFlight := by
          intro _ v j l hv hj hl
          obtain rfl := Option.some.inj (hw.symm.trans hv)
          obtain rfl := Except.ok.inj (hi.symm.trans hj)
          obtain rfl := Option.some.inj (hk.symm.trans hl)
          rfl
        receiving := nofun
        received := nofun
        stopped := nofun }

theorem Inv.evalHalf (h : Inv s) {w : JobWord} (hw : s.curJob = some w) (k : JobKind) :
    Inv (s.evalHalf Config.ofBlock k w) :=
  (h.withCrc _).endJob (h.jobLegal w hw) k _

/-- Where a job has its window, CUR_JOB holds a word that decodes to a job kind (R34, R108). -/
theorem Inv.job (h : Inv s) (hs : s.seqState.hasJob = true) :
    ∃ w i k, s.curJob = some w ∧ decodeJob w = .ok i ∧ i.jobKind = some k := by
  obtain ⟨w, hw⟩ := Option.isSome_iff_exists.1 (h.jobWindow.trans hs)
  obtain ⟨i, hi⟩ := (legalWord_iff w).1 (h.jobLegal w hw)
  obtain ⟨k, hk⟩ := decodeJob_kind hi
  exact ⟨w, i, k, hw, hi, hk⟩

/-- Every class reads at least one byte, P_MAX_REPLY being legal (00_scope.md R10, R200). -/
theorem limitOf_pos (c : EvalClass) : 0 < limitOf Config.ofBlock c := by
  obtain ⟨reply, -⟩ := (Config.legal_iff _).1 Config.ofBlock_legal
  cases c with
  | status => exact Nat.lt_of_lt_of_le (by decide) reply
  | ack => decide

/-- The SEND step empties RX_BUF, which is below the limit of any class (R240). -/
theorem Inv.sendFrame (h : Inv s) (hs : s.seqState = .send) : Inv s.sendFrame := by
  have framed : s.seqState.framed = true := by rw [hs]; rfl
  obtain ⟨w, i, k, hw, hi, hk⟩ := h.job (by rw [hs]; rfl)
  have limit := h.limitInFlight framed w i k hw hi hk
  exact
    { h with
      jobWindow := h.jobWindow.trans (by rw [hs]; rfl)
      rxBound := Nat.zero_le _
      requestInFlight := fun _ => h.requestInFlight framed
      limitInFlight := fun _ => h.limitInFlight framed
      receiving := fun _ => limit ▸ limitOf_pos _
      received := nofun
      stopped := nofun }

/-- The reception ends in EVAL with the reply so far, at a timeout or at the limit (R242, R243). -/
theorem Inv.endReception (h : Inv s) (hs : s.seqState = .receive) {v : List Byte} (hv : v.length ≤ s.rxLimit) :
    Inv ((s.withRx v).withSeq .eval) :=
  have framed : s.seqState.framed = true := by rw [hs]; rfl
  { h with
    jobWindow := h.jobWindow.trans (by rw [hs]; rfl)
    rxBound := hv.trans h.limitBound
    requestInFlight := fun _ => h.requestInFlight framed
    limitInFlight := fun _ => h.limitInFlight framed
    receiving := nofun
    received := fun _ => hv
    stopped := nofun }

theorem Inv.rxTimeout (h : Inv s) : Inv s.rxTimeout := by
  unfold State.rxTimeout
  split_ifs with hs
  · exact h.endReception hs (h.receiving hs).le
  · exact h

/-- A byte kept in RECEIVE reaches RX_LIMIT or stays below it (R242). -/
theorem Inv.storeByte (h : Inv s) (hs : s.seqState = .receive) (b : Byte) : Inv (s.storeByte b) := by
  have below : s.rxBuf.length < s.rxLimit := h.receiving hs
  have grown : (s.rxBuf ++ [b]).length = s.rxBuf.length + 1 := List.length_append
  rcases s.storeByte_cases b with ⟨-, he⟩ | ⟨more, he⟩ <;> rw [he]
  · exact h.endReception hs (grown.trans_le below)
  · exact
      { h with
        rxBound := (grown.trans_le below).trans h.limitBound
        receiving := fun _ => show (s.rxBuf ++ [b]).length < s.rxLimit by omega
        received := fun c => absurd (hs.symm.trans c) (by decide) }

end InvOfOperation

/-- Every BLOCK step keeps the invariant, one case per SEQ_STATE. -/
theorem Inv.blockStep {s t : State} (h : Inv s) (hb : blockStep s = .next t) : Inv t := by
  rcases blockStep_cases hb with ⟨hs, rfl⟩ | ⟨hs, w, i, k, hw, hi, hk, rfl⟩ | ⟨hs, -, rfl⟩ | ⟨-, rfl⟩ |
    ⟨-, w, i, k, hw, -, -, rfl⟩ | ⟨hs, rfl⟩ | ⟨-, rfl⟩
  · exact h.idleStep hs
  · exact h.execHalf hs hw hi hk
  · exact h.sendFrame hs
  · exact h
  · exact h.evalHalf hw k
  · exact h.sweepStep hs
  · exact h

theorem Inv.rxByte {s t : State} {b : Byte} (h : Inv s) (hr : s.rxByte Config.ofBlock b = .next t) : Inv t := by
  rcases State.rxByte_cases hr with ⟨hs, -, rfl⟩ | ⟨-, rfl⟩
  · exact h.storeByte hs b
  · exact h

/-- Every step of every agent keeps the invariant, one case per action. -/
theorem Inv.step {s t : State} (hinv : Inv s) (hstep : step s = .next t) : Inv t := by
  have h := hinv.popAction
  rcases step_cases hstep with ⟨-, hb⟩ | ⟨w, -, rfl⟩ | ⟨-, rfl⟩ | ⟨-, rfl⟩ | ⟨-, rfl⟩ | ⟨i, -, rfl⟩ | ⟨b, -, hr⟩ |
    ⟨-, rfl⟩
  · exact h.blockStep hb
  · exact h.hostEnqueue w
  · exact h.tick
  · exact h.shutdown
  · exact inv_resetBlock _
  · exact h.withHost i
  · exact h.rxByte hr
  · exact h.rxTimeout

/-! A scheduled step of the HOST or the CHANNEL (10_state.md R20). -/

/-- The step of a scheduled action is that of its agent, on the state without it. -/
theorem step_of_schedule {s : State} {a : Action} {rest : List Action} (h : s.schedule = a :: rest) :
    step s = agentStep a { s with schedule := rest } := by
  rw [step_eq, State.nextAction, State.popAction, h]
  rfl

theorem State.hostEnqueue_accepted {s : State} {cfg : Config} {w : JobWord} (hw : legalWord w = true)
    (room : s.q.length < cfg.queueDepth) : s.hostEnqueue cfg w = (s.pushJob w).addResponse .accepted := by
  rcases s.hostEnqueue_cases cfg w with ⟨-, -, he⟩ | ⟨-, full, -⟩ | ⟨illegal, -⟩
  · exact he
  · exact absurd room full
  · rw [hw] at illegal; cases illegal

theorem State.hostEnqueue_rejectFull {s : State} {cfg : Config} {w : JobWord} (hw : legalWord w = true)
    (full : ¬ s.q.length < cfg.queueDepth) :
    s.hostEnqueue cfg w = (s.withOverflow true).addResponse .rejectFull := by
  rcases s.hostEnqueue_cases cfg w with ⟨-, room, -⟩ | ⟨-, -, he⟩ | ⟨illegal, -⟩
  · exact absurd room full
  · exact he
  · rw [hw] at illegal; cases illegal

theorem State.hostEnqueue_rejectIllegal {s : State} {cfg : Config} {w : JobWord} (hw : legalWord w = false) :
    s.hostEnqueue cfg w = s.addResponse .rejectIllegal := by
  simp [State.hostEnqueue, hw]

/-- A word selects exactly one row of R101 exactly when it decodes: KIND separates the rows (30_encoding.md R108). -/
theorem wellFormedWord_eq_legalWord (w : JobWord) : wellFormedWord w = legalWord w := by
  have poll := selects_plain_iff w 0#3
  have sync := selects_plain_iff w 1#3
  have temp := selects_setTemp_iff w
  have water := selects_setHotWater_iff w
  have probe := selects_plain_iff w 4#3
  rw [show jobWord 0#3 0#1 0#8 0#8 = 0x00000000#32 by decide] at poll
  rw [show jobWord 1#3 0#1 0#8 0#8 = 0x00000001#32 by decide] at sync
  rw [show jobWord 4#3 0#1 0#8 0#8 = 0x00000004#32 by decide] at probe
  have kinds : ∀ k : BitVec 3, k = 0#3 ∨ k = 1#3 ∨ k = 2#3 ∨ k = 3#3 ∨ k = 4#3 ∨ k = 5#3 ∨ k = 6#3 ∨ k = 7#3 := by
    decide
  simp only [wellFormedWord, selectedRows, jobRows, JobRow.selectedBy, List.filter_cons, List.filter_nil, beq_iff_eq,
    legalWord, decodeJob, poll, sync, temp, water, probe]
  rcases kinds (kindField w) with h | h | h | h | h | h | h | h <;> simp [h] <;> split <;> simp

/-! The sticky flags SHUTDOWN_REQ and OVERFLOW (10_state.md R37, R38). -/

/-- A job's EXEC half ends it early or loads one request and goes to SEND, whatever its kind (R236, R237). -/
theorem State.execHalf_prepareOf_cases (s : State) (cfg : Config) (k : JobKind) (w : JobWord) (i : Instr) :
    (∃ r, s.execHalf cfg k w (prepareOf i cfg s) = s.endJob cfg k w r) ∨
      (∃ c d a e p, s.execHalf cfg k w (prepareOf i cfg s) = (s.loadRequest cfg c d a e p).withSeq .send) := by
  rcases s.execHalf_cases cfg k w (prepareOf i cfg s) with ⟨r, -, he⟩ | ⟨t, hp, he⟩
  · exact .inl ⟨r, he⟩
  · obtain ⟨c, d, a, e, p, rfl⟩ := prepareOf_frame hp
    exact .inr ⟨c, d, a, e, p, he⟩

@[simp] theorem State.evalHalf_shutdownReq (s : State) (cfg : Config) (k : JobKind) (w : JobWord) :
    (s.evalHalf cfg k w).shutdownReq = s.shutdownReq := by
  simp [State.evalHalf]

@[simp] theorem State.execHalf_prepareOf_shutdownReq (s : State) (cfg : Config) (k : JobKind) (w : JobWord) (i : Instr) :
    (s.execHalf cfg k w (prepareOf i cfg s)).shutdownReq = s.shutdownReq := by
  rcases s.execHalf_prepareOf_cases cfg k w i with ⟨r, he⟩ | ⟨c, d, a, e, p, he⟩ <;> rw [he]
  · exact s.endJob_shutdownReq cfg k w r
  · rfl

theorem blockStep_shutdownReq {s t : State} (h : blockStep s = .next t) : t.shutdownReq = s.shutdownReq := by
  rcases blockStep_cases h with ⟨-, rfl⟩ | ⟨-, w, i, k, -, -, -, rfl⟩ | ⟨-, -, rfl⟩ | ⟨-, rfl⟩ |
    ⟨-, w, i, k, -, -, -, rfl⟩ | ⟨-, rfl⟩ | ⟨-, rfl⟩
  · exact s.idleStep_shutdownReq
  · exact s.execHalf_prepareOf_shutdownReq _ k w i
  · exact s.sendFrame_shutdownReq
  · rfl
  · exact s.evalHalf_shutdownReq _ k w
  · exact s.sweepStep_shutdownReq _
  · rfl

@[simp] theorem State.rxTimeout_shutdownReq (s : State) : s.rxTimeout.shutdownReq = s.shutdownReq := by
  unfold State.rxTimeout
  split <;> rfl

@[simp] theorem State.rxTimeout_overflow (s : State) : s.rxTimeout.overflow = s.overflow := by
  unfold State.rxTimeout
  split <;> rfl

@[simp] theorem State.rxTimeout_sent (s : State) : s.rxTimeout.sent = s.sent := by
  unfold State.rxTimeout
  split <;> rfl

theorem State.rxByte_overflow {s t : State} {b : Byte} (h : s.rxByte Config.ofBlock b = .next t) :
    t.overflow = s.overflow := by
  rcases State.rxByte_cases h with ⟨-, -, rfl⟩ | ⟨-, rfl⟩
  · exact s.storeByte_overflow b
  · rfl

theorem State.rxByte_sent {s t : State} {b : Byte} (h : s.rxByte Config.ofBlock b = .next t) : t.sent = s.sent := by
  rcases State.rxByte_cases h with ⟨-, -, rfl⟩ | ⟨-, rfl⟩
  · exact s.storeByte_sent b
  · rfl

theorem State.rxByte_shutdownReq {s t : State} {b : Byte} (h : s.rxByte Config.ofBlock b = .next t) :
    t.shutdownReq = s.shutdownReq := by
  rcases State.rxByte_cases h with ⟨-, -, rfl⟩ | ⟨-, rfl⟩
  · exact s.storeByte_shutdownReq b
  · rfl

/-- Without RESET, SHUTDOWN_REQ is kept by every step but SHUTDOWN, which sets it (R37). -/
theorem step_shutdownReq {s t : State} (h : step s = .next t) (noReset : s.nextAction ≠ .reset) :
    t.shutdownReq = s.shutdownReq ∨ (s.nextAction = .shutdown ∧ t.shutdownReq = true) := by
  rcases step_cases h with ⟨-, hb⟩ | ⟨w, -, rfl⟩ | ⟨-, rfl⟩ | ⟨ha, rfl⟩ | ⟨ha, -⟩ | ⟨i, -, rfl⟩ | ⟨b, -, hr⟩ | ⟨-, rfl⟩
  · exact .inl (by rw [blockStep_shutdownReq hb, State.popAction_shutdownReq])
  · exact .inl (s.popAction.hostEnqueue_shutdownReq _ w)
  · exact .inl s.popAction.tick_shutdownReq
  · exact .inr ⟨ha, rfl⟩
  · exact absurd ha noReset
  · exact .inl rfl
  · exact .inl (by rw [State.rxByte_shutdownReq hr, State.popAction_shutdownReq])
  · exact .inl s.popAction.rxTimeout_shutdownReq

/-- OVERFLOW as before, or set with the FIFO left full: what R38 lets a step do to it. -/
def OverflowSetWhenFull (cfg : Config) (s t : State) : Prop :=
  t.overflow = s.overflow ∨ (t.overflow = true ∧ cfg.queueDepth ≤ t.q.length)

theorem State.enqueueAll_overflow (s : State) (cfg : Config) (ws : List JobWord) :
    OverflowSetWhenFull cfg s (s.enqueueAll cfg ws) := by
  rw [State.enqueueAll_eq]
  by_cases lost : cfg.queueDepth - s.q.length < ws.length
  · refine .inr ⟨by simp [lost], ?_⟩
    simp only [List.length_append, List.length_take]
    omega
  · exact .inl (by simp [lost])

theorem State.sweepStep_overflow (s : State) (cfg : Config) : OverflowSetWhenFull cfg s (s.sweepStep cfg) := by
  rw [State.sweepStep_eq]
  exact State.enqueueAll_overflow _ cfg _

theorem State.endJob_overflow (s : State) (cfg : Config) (k : JobKind) (w : JobWord) (r : JobResult) :
    OverflowSetWhenFull cfg s (s.endJob cfg k w r) := by
  rcases s.endJob_cases cfg k w r with ⟨-, -, kept, -⟩ | ⟨-, -, -, kept, -⟩ | ⟨-, full, hq, set, -⟩
  · exact .inl kept
  · exact .inl kept
  · exact .inr ⟨set, hq ▸ Nat.not_lt.1 full⟩

theorem State.hostEnqueue_overflow (s : State) (cfg : Config) (w : JobWord) :
    OverflowSetWhenFull cfg s (s.hostEnqueue cfg w) := by
  rcases s.hostEnqueue_cases cfg w with ⟨-, -, he⟩ | ⟨-, full, he⟩ | ⟨-, he⟩ <;> rw [he]
  · exact .inl rfl
  · exact .inr ⟨rfl, Nat.not_lt.1 full⟩
  · exact .inl rfl

theorem blockStep_overflow {s t : State} (h : blockStep s = .next t) : OverflowSetWhenFull Config.ofBlock s t := by
  rcases blockStep_cases h with ⟨-, rfl⟩ | ⟨-, w, i, k, -, -, -, rfl⟩ | ⟨-, -, rfl⟩ | ⟨-, rfl⟩ |
    ⟨-, w, i, k, -, -, -, rfl⟩ | ⟨-, rfl⟩ | ⟨-, rfl⟩
  · exact .inl s.idleStep_overflow
  · rcases s.execHalf_prepareOf_cases Config.ofBlock k w i with ⟨r, he⟩ | ⟨c, d, a, e, p, he⟩ <;> rw [he]
    · exact s.endJob_overflow _ k w r
    · exact .inl rfl
  · exact .inl s.sendFrame_overflow
  · exact .inl rfl
  · exact State.endJob_overflow (s.withCrc _) _ k w _
  · exact s.sweepStep_overflow _
  · exact .inl rfl

/-- Without RESET, every step keeps OVERFLOW, or sets it and leaves the FIFO full (R38). -/
theorem step_overflow {s t : State} (h : step s = .next t) (noReset : s.nextAction ≠ .reset) :
    OverflowSetWhenFull Config.ofBlock s t := by
  rcases step_cases h with ⟨-, hb⟩ | ⟨w, -, rfl⟩ | ⟨-, rfl⟩ | ⟨-, rfl⟩ | ⟨ha, -⟩ | ⟨i, -, rfl⟩ | ⟨b, -, hr⟩ | ⟨-, rfl⟩
  · exact blockStep_overflow (s := s.popAction) hb
  · exact s.popAction.hostEnqueue_overflow _ w
  · exact .inl s.popAction.tick_overflow
  · exact .inl rfl
  · exact absurd ha noReset
  · exact .inl rfl
  · exact .inl (by rw [State.rxByte_overflow hr, State.popAction_overflow])
  · exact .inl s.popAction.rxTimeout_overflow

/-! The bus (10_state.md R21, 44_sequencer.md R240). -/

theorem blockStep_sent {s t : State} (h : blockStep s = .next t) :
    t.sent = s.sent ∨ (s.seqState = .send ∧ t = s.sendFrame) := by
  rcases blockStep_cases h with ⟨-, rfl⟩ | ⟨-, w, i, k, -, -, -, rfl⟩ | ⟨hs, -, rfl⟩ | ⟨-, rfl⟩ |
    ⟨-, w, i, k, -, -, -, rfl⟩ | ⟨-, rfl⟩ | ⟨-, rfl⟩
  · exact .inl s.idleStep_sent
  · rcases s.execHalf_prepareOf_cases Config.ofBlock k w i with ⟨r, he⟩ | ⟨c, d, a, e, p, he⟩ <;> rw [he]
    · exact .inl (s.endJob_sent _ k w r)
    · exact .inl rfl
  · exact .inr ⟨hs, rfl⟩
  · exact .inl rfl
  · exact .inl (State.endJob_sent (s.withCrc _) _ k w _)
  · exact .inl (s.sweepStep_sent _)
  · exact .inl rfl

/-- The channel takes nothing in a step but the BLOCK's in SEND. -/
theorem step_sent {s t : State} (h : step s = .next t) :
    t.sent = s.sent ∨ (s.nextAction = .block ∧ s.seqState = .send ∧ t = s.popAction.sendFrame) := by
  rcases step_cases h with ⟨ha, hb⟩ | ⟨w, -, rfl⟩ | ⟨-, rfl⟩ | ⟨-, rfl⟩ | ⟨-, rfl⟩ | ⟨i, -, rfl⟩ | ⟨b, -, hr⟩ | ⟨-, rfl⟩
  · rcases blockStep_sent hb with kept | ⟨hs, ht⟩
    · exact .inl kept
    · exact .inr ⟨ha, hs, ht⟩
  · exact .inl (s.popAction.hostEnqueue_sent _ w)
  · exact .inl s.popAction.tick_sent
  · exact .inl rfl
  · exact .inl rfl
  · exact .inl rfl
  · exact .inl (by rw [State.rxByte_sent hr, State.popAction_sent])
  · exact .inl s.popAction.rxTimeout_sent

/-! The accumulators (10_state.md R30, 40_crc.md R121): an operation on a state with other accumulators answers the same
state with other accumulators. -/

section WithCrc
variable (s : State) (c : CrcAcc)

theorem State.enqueueAll_withCrc (cfg : Config) (ws : List JobWord) :
    (s.withCrc c).enqueueAll cfg ws = (s.enqueueAll cfg ws).withCrc c := by
  simp only [State.enqueueAll_eq]
  rfl

theorem State.sweepStep_withCrc (cfg : Config) : (s.withCrc c).sweepStep cfg = (s.sweepStep cfg).withCrc c := by
  simp only [State.sweepStep_eq, State.enqueueAll_eq]
  rfl

theorem State.enqueue_withCrc (cfg : Config) (w : JobWord) : (s.withCrc c).enqueue cfg w = (s.enqueue cfg w).withCrc c :=
  s.enqueueAll_withCrc c cfg [w]

theorem State.retryJob_withCrc (cfg : Config) (k : JobKind) (w : JobWord) (r : JobResult) :
    (s.withCrc c).retryJob cfg k w r = (s.retryJob cfg k w r).withCrc c := by
  unfold State.retryJob
  split_ifs
  · exact s.enqueue_withCrc c cfg w
  · rfl

theorem State.endJob_withCrc (cfg : Config) (k : JobKind) (w : JobWord) (r : JobResult) :
    (s.withCrc c).endJob cfg k w r = (s.endJob cfg k w r).withCrc c :=
  congrArg (fun t : State => (t.withCurJob none).withSeq .sweep)
    ((s.addReport (jobReport k w r (s.requeues cfg k r))).retryJob_withCrc c cfg k w r)

theorem State.idleStep_withCrc : (s.withCrc c).idleStep = s.idleStep.withCrc c := by
  unfold State.idleStep
  rw [State.withCrc_shutdownReq, State.withCrc_tickPending, State.withCrc_q]
  cases s.shutdownReq with
  | true => rfl
  | false =>
    cases s.tickPending with
    | true => cases s.q <;> rfl
    | false => rfl

theorem State.quietStep_withCrc (cfg : Config) : (s.withCrc c).quietStep cfg = (s.quietStep cfg).withCrc c := by
  unfold State.quietStep
  rw [State.withCrc_seqState]
  cases s.seqState with
  | idle => exact s.idleStep_withCrc c
  | sweep => exact s.sweepStep_withCrc c cfg
  | exec | send | receive | eval | stopped => rfl

theorem State.hostEnqueue_withCrc (cfg : Config) (w : JobWord) :
    (s.withCrc c).hostEnqueue cfg w = (s.hostEnqueue cfg w).withCrc c := by
  rcases s.hostEnqueue_cases cfg w with ⟨hw, room, he⟩ | ⟨hw, full, he⟩ | ⟨hw, he⟩ <;> rw [he]
  · exact State.hostEnqueue_accepted (s := s.withCrc c) hw room
  · exact State.hostEnqueue_rejectFull (s := s.withCrc c) hw full
  · exact State.hostEnqueue_rejectIllegal (s := s.withCrc c) hw

theorem State.tick_withCrc : (s.withCrc c).tick = s.tick.withCrc c :=
  (apply_ite (fun t : State => t.withCrc c) (s.seqState = .stopped) s (s.withTick true)).symm

theorem State.rxTimeout_withCrc : (s.withCrc c).rxTimeout = s.rxTimeout.withCrc c :=
  (apply_ite (fun t : State => t.withCrc c) (s.seqState = .receive) (s.withSeq .eval) s).symm

theorem State.storeByte_withCrc (b : Byte) : (s.withCrc c).storeByte b = (s.storeByte b).withCrc c :=
  (apply_ite (fun t : State => t.withCrc c) ((s.rxBuf ++ [b]).length = s.rxLimit)
    ((s.withRx (s.rxBuf ++ [b])).withSeq .eval) (s.withRx (s.rxBuf ++ [b]))).symm

/-- EXEC reads no accumulator: it builds the same request, with the CRC of its own bytes (40_crc.md R121). -/
theorem prepareOf_withCrc (i : Instr) (cfg : Config) : prepareOf i cfg (s.withCrc c) = prepareOf i cfg s := by
  cases i <;> rfl

/-- The EXEC half leaves the CRC of its request, or what was there before. -/
theorem State.execHalf_withCrc (cfg : Config) (k : JobKind) (w : JobWord) (p : Prepared) :
    ∃ c', (s.withCrc c).execHalf cfg k w p = (s.execHalf cfg k w p).withCrc c' := by
  cases p with
  | early r => exact ⟨c, s.endJob_withCrc c cfg k w r⟩
  | frame t => exact ⟨t.crc, rfl⟩

/-- The EVAL half judges the reply alone; only what it leaves in the accumulators may be what was there before. -/
theorem State.evalHalf_withCrc (cfg : Config) (k : JobKind) (w : JobWord) :
    ∃ c', (s.withCrc c).evalHalf cfg k w = (s.evalHalf cfg k w).withCrc c' :=
  ⟨crcAfterJudge (evalClass k) c s.rxBuf,
    State.endJob_withCrc (s.withCrc (crcAfterJudge (evalClass k) s.crc s.rxBuf)) _ cfg k w
      (judge (evalClass k) s.rxBuf)⟩

end WithCrc

theorem exec_withCrc {i : Instr} {s t : State} (c : CrcAcc) (h : exec i s = .next t) :
    ∃ c', exec i (s.withCrc c) = .next (t.withCrc c') := by
  have frame (h : runFrame s = .next t) : ∃ c', runFrame (s.withCrc c) = .next (t.withCrc c') := by
    obtain ⟨hs, rfl⟩ := (runFrame_next s t).1 h
    exact ⟨c, (runFrame_next _ _).2 ⟨hs, rfl⟩⟩
  cases hk : i.jobKind with
  | some k =>
    obtain ⟨w, hw, ⟨hs, rfl⟩ | ⟨hs, rfl⟩⟩ := (exec_job_next hk s t).1 h
    · obtain ⟨c', he⟩ := s.execHalf_withCrc c Config.ofBlock k w (prepareOf i Config.ofBlock s)
      exact ⟨c', (exec_job_next hk _ _).2 ⟨w, hw, .inl ⟨hs, by rw [prepareOf_withCrc, he]⟩⟩⟩
    · obtain ⟨c', he⟩ := s.evalHalf_withCrc c Config.ofBlock k w
      exact ⟨c', (exec_job_next hk _ _).2 ⟨w, hw, .inr ⟨hs, he.symm⟩⟩⟩
  | none =>
    cases i with
    | read | write => exact frame h
    | poll | syncClock | setTemp | setHotWater | probe => cases hk

theorem blockStep_withCrc {s t : State} (c : CrcAcc) (h : blockStep s = .next t) :
    ∃ c', blockStep (s.withCrc c) = .next (t.withCrc c') := by
  have fetched : (s.withCrc c).fetch = s.fetch := rfl
  unfold blockStep at h ⊢
  rw [fetched]
  cases hf : s.fetch with
  | code word =>
    cases hd : decode word with
    | ok i =>
      simp only [hf, hd] at h ⊢
      exact exec_withCrc c h
    | error e => simp [hf, hd] at h
  | noValue f => simp [hf] at h
  | nothing =>
    simp only [hf, Host.Outcome.next.injEq] at h ⊢
    exact ⟨c, h ▸ s.quietStep_withCrc c Config.ofBlock⟩

theorem State.rxByte_withCrc {s t : State} {b : Byte} (c : CrcAcc) (h : s.rxByte Config.ofBlock b = .next t) :
    (s.withCrc c).rxByte Config.ofBlock b = .next (t.withCrc c) := by
  rcases State.rxByte_cases h with ⟨hs, room, rfl⟩ | ⟨hs, rfl⟩
  · rw [← State.storeByte_withCrc]
    exact (if_pos hs).trans (if_pos room)
  · exact if_neg hs

/-- Every agent's step does the same whatever the accumulators hold, but for what it leaves in them. -/
theorem agentStep_withCrc {a : Action} {s t : State} (c : CrcAcc) (h : agentStep a s = .next t) :
    ∃ c', agentStep a (s.withCrc c) = .next (t.withCrc c') := by
  cases a with
  | block => exact blockStep_withCrc c h
  | enqueue w =>
    obtain rfl := Host.Outcome.next.inj h
    exact ⟨c, congrArg _ (s.hostEnqueue_withCrc c Config.ofBlock w)⟩
  | tick =>
    obtain rfl := Host.Outcome.next.inj h
    exact ⟨c, congrArg _ (s.tick_withCrc c)⟩
  | shutdown =>
    obtain rfl := Host.Outcome.next.inj h
    exact ⟨c, rfl⟩
  | reset =>
    obtain rfl := Host.Outcome.next.inj h
    exact ⟨s.resetBlock.crc, rfl⟩
  | drive i =>
    obtain rfl := Host.Outcome.next.inj h
    exact ⟨c, rfl⟩
  | rxByte b => exact ⟨c, State.rxByte_withCrc c h⟩
  | rxTimeout =>
    obtain rfl := Host.Outcome.next.inj h
    exact ⟨c, congrArg _ (s.rxTimeout_withCrc c)⟩

end Sys2Proof.Machine

namespace Sys2Proof

/-- Settles O11, by the operations of each agent: each keeps the invariant, and a request that EXEC builds serves its job. -/
theorem everyStepKeepsTheInvariant : Obligations.EveryStepKeepsTheInvariant := fun _ _ => Machine.Inv.step

/-- Settles O20, from what a step can do to each flag and what each enqueue does on a full FIFO. -/
theorem onlyResetClearsStickyFlags : Obligations.OnlyResetClearsStickyFlags := by
  refine ⟨fun s t h noReset => ?_, fun cfg s w hw full => ⟨?_, ?_⟩⟩
  · have request := Machine.step_shutdownReq h noReset
    have overflow := Machine.step_overflow h noReset
    refine ⟨fun on => ?_, fun on => ?_, fun on => ?_, fun off on => ?_⟩
    · rcases request with kept | ⟨-, set⟩
      · exact kept.trans on
      · exact set
    · exact request.imp (fun kept => kept.symm.trans on) And.left
    · rcases overflow with kept | ⟨set, -⟩
      · exact kept.trans on
      · exact set
    · rcases overflow with kept | ⟨-, full⟩
      · exact absurd (on.symm.trans (kept.trans off)) (by decide)
      · exact full
  · rw [Machine.State.hostEnqueue_rejectFull hw full.not_gt]
    rfl
  · rcases s.enqueue_cases cfg w with ⟨room, -⟩ | ⟨-, he⟩
    · exact absurd room full.not_gt
    · rw [he]
      rfl

/-- Settles O57: what a step reads of the state, the accumulators are no part of. -/
theorem crcAccumulatorsAreNeverRead : Obligations.CrcAccumulatorsAreNeverRead :=
  fun _ _ c h => Machine.agentStep_withCrc c h

/-- Settles O36: SEND is the one step that adds to what the channel has taken. -/
theorem onlySendWritesTheBus : Obligations.OnlySendWritesTheBus := by
  intro s t h
  rcases Machine.step_sent h with kept | ⟨ha, hs, rfl⟩
  · exact .inl kept
  · exact .inr ⟨ha, hs, rfl, rfl⟩

/-- Settles O9, element by element: R44's table. -/
theorem resetValues : Obligations.ResetValues := by
  refine ⟨rfl, rfl, rfl, rfl, rfl, rfl, rfl, fun _ => ?_, rfl, fun _ => ?_, rfl, rfl, rfl, rfl, rfl, rfl⟩
  · exact List.getElem?_nil
  · exact List.getElem?_nil

/-- Settles O10, by the invariant at reset; no report and no frame has been put out. -/
theorem resetIsSound : Obligations.ResetIsSound :=
  ⟨Machine.inv_reset, List.forall_mem_nil _, List.forall_mem_nil _⟩

/-- Settles O17, by the one case of ENQUEUE that each hypothesis leaves. -/
theorem enqueueAnswers : Obligations.EnqueueAnswers := by
  refine ⟨⟨rfl, rfl, rfl⟩, fun s w rest hs => ?_⟩
  rw [Machine.step_of_schedule hs, Machine.wellFormedWord_eq_legalWord]
  refine ⟨fun hw room => ?_, fun hw full => ?_, fun hw => ?_⟩
  · exact congrArg Host.Outcome.next (Machine.State.hostEnqueue_accepted hw room)
  · exact congrArg Host.Outcome.next (Machine.State.hostEnqueue_rejectFull hw full)
  · exact congrArg Host.Outcome.next (Machine.State.hostEnqueue_rejectIllegal hw)

/-- Settles O18: STOPPED is the one state in which the latch ignores a tick. -/
theorem tickIsLatched : Obligations.TickIsLatched := by
  refine fun s rest hs => ⟨fun running => ?_, fun stopped => ?_⟩ <;> rw [Machine.step_of_schedule hs]
  · exact congrArg Host.Outcome.next (if_neg running)
  · exact congrArg Host.Outcome.next (if_pos stopped)

/-- Settles O19: each of the two steps is one update of its field. -/
theorem shutdownAndInputsAreLatched : Obligations.ShutdownAndInputsAreLatched :=
  fun _ _ _ => ⟨Machine.step_of_schedule, Machine.step_of_schedule⟩

/-- Settles O59, by the SEQ_STATEs for BUSY; the other values are read off the state. -/
theorem statusValues : Obligations.StatusValues := by
  intro s
  refine ⟨?_, rfl, rfl, decide_eq_true_iff, rfl⟩
  change s.seqState.busy = true ↔ _
  cases s.seqState <;> decide

end Sys2Proof

/-! Memory (20_memory.md): the frames that reach the bus, and the order of the FIFO. -/

namespace Sys2Proof.Machine

/-- A frame that serves some job is one of the block's requests, whatever the job. -/
theorem legalRequest_of_frameServes {i : Instr} {frame : List Byte} (h : frameServes i frame = true) :
    legalRequest frame = true := by
  unfold frameServes at h
  unfold legalRequest
  cases hd : decodeRequest frame with
  | none => simp [hd] at h
  | some f =>
    simp only [hd, Bool.and_eq_true] at h
    exact h.1

/-- A request stands in TX_BUF only while its job is in its window (10_state.md R34). -/
theorem SeqState.hasJob_of_framed {v : SeqState} (h : v.framed = true) : v.hasJob = true := by
  cases v with
  | send | receive | eval => rfl
  | idle | exec | sweep | stopped => cases h

/-- From SEND to EVAL, TX_BUF holds one of the block's requests: that of the job in its window (30_encoding.md R103). -/
theorem Inv.legalRequest_txBuf {s : State} (h : Inv s) (framed : s.seqState.framed = true) :
    legalRequest s.txBuf = true := by
  obtain ⟨w, i, -, hw, hi, -⟩ := h.job (SeqState.hasJob_of_framed framed)
  exact legalRequest_of_frameServes (h.requestInFlight framed w i hw hi)

/-- The SEND step adds TX_BUF to what the channel has taken, and nothing else (44_sequencer.md R240). -/
theorem SentLegal.sendFrame {s : State} (h : SentLegal s) (legal : legalRequest s.txBuf = true) :
    SentLegal s.sendFrame := by
  unfold SentLegal
  rw [State.sendFrame_sent]
  exact List.forall_mem_append.2 ⟨h, List.forall_mem_singleton.2 legal⟩

/-- A step puts no frame on the bus, or in SEND the request of the job in flight. -/
theorem SentLegal.step {s t : State} (h : SentLegal s) (hinv : Inv s) (hstep : step s = .next t) : SentLegal t := by
  rcases step_sent hstep with kept | ⟨-, hs, rfl⟩
  · unfold SentLegal
    rwa [kept]
  · have legal : legalRequest s.txBuf = true := hinv.legalRequest_txBuf (by rw [hs]; rfl)
    exact SentLegal.sendFrame (s := s.popAction) h legal

/-! The FIFO (R77, R83): what only adds at the tail leaves the old queue as a prefix of the new one. -/

/-- The head of the FIFO moves to CUR_JOB, and the rest stays as it was (R83, 44_sequencer.md R232). -/
def HeadPopped (s t : State) : Prop := ∃ w rest, s.q = w :: rest ∧ t.curJob = some w ∧ t.q = rest

@[simp] theorem State.rxTimeout_q (s : State) : s.rxTimeout.q = s.q := by
  unfold State.rxTimeout
  split <;> rfl

theorem State.rxByte_q {s t : State} {b : Byte} (h : s.rxByte Config.ofBlock b = .next t) : t.q = s.q := by
  rcases State.rxByte_cases h with ⟨-, -, rfl⟩ | ⟨-, rfl⟩
  · exact s.storeByte_q b
  · rfl

section QueuePrefix
variable (s : State) (cfg : Config)

theorem State.q_prefix_sweepStep : s.q <+: (s.sweepStep cfg).q := by
  rw [State.sweepStep_eq, State.backToIdle_q, State.enqueueAll_eq]
  exact List.prefix_append _ _

theorem State.q_prefix_endJob (k : JobKind) (w : JobWord) (r : JobResult) : s.q <+: (s.endJob cfg k w r).q := by
  rcases s.endJob_cases cfg k w r with ⟨-, kept, -⟩ | ⟨-, -, added, -⟩ | ⟨-, -, kept, -⟩
  · rw [kept]
  · exact added ▸ List.prefix_append _ _
  · rw [kept]

theorem State.q_prefix_execHalf_prepareOf (k : JobKind) (w : JobWord) (i : Instr) :
    s.q <+: (s.execHalf cfg k w (prepareOf i cfg s)).q := by
  rcases s.execHalf_prepareOf_cases cfg k w i with ⟨r, he⟩ | ⟨c, d, a, e, p, he⟩ <;> rw [he]
  · exact s.q_prefix_endJob cfg k w r
  · exact List.prefix_rfl

theorem State.q_prefix_evalHalf (k : JobKind) (w : JobWord) : s.q <+: (s.evalHalf cfg k w).q :=
  State.q_prefix_endJob (s.withCrc (crcAfterJudge (evalClass k) s.crc s.rxBuf)) cfg k w (judge (evalClass k) s.rxBuf)

theorem State.q_prefix_hostEnqueue (w : JobWord) : s.q <+: (s.hostEnqueue cfg w).q := by
  rcases s.hostEnqueue_cases cfg w with ⟨-, -, he⟩ | ⟨-, -, he⟩ | ⟨-, he⟩ <;> rw [he]
  · exact List.prefix_append _ _
  · exact List.prefix_rfl
  · exact List.prefix_rfl

end QueuePrefix

/-- The IDLE step keeps the FIFO, or pops its head at a tick (44_sequencer.md R232). -/
theorem State.idleStep_q (s : State) : s.idleStep.q = s.q ∨ HeadPopped s s.idleStep := by
  rcases s.idleStep_cases with ⟨-, he⟩ | ⟨-, -, w, rest, hq, he⟩ | ⟨-, -, -, he⟩ | ⟨-, -, he⟩ <;> rw [he]
  · exact .inl rfl
  · exact .inr ⟨w, rest, hq, rfl, rfl⟩
  · exact .inl rfl
  · exact .inl rfl

/-- A BLOCK step adds at the FIFO's tail only, or pops its head in IDLE: one case per SEQ_STATE. -/
theorem blockStep_q {s t : State} (h : blockStep s = .next t) :
    s.q <+: t.q ∨ (s.seqState = .idle ∧ HeadPopped s t) := by
  rcases blockStep_cases h with ⟨hs, rfl⟩ | ⟨-, w, i, k, -, -, -, rfl⟩ | ⟨-, -, rfl⟩ | ⟨-, rfl⟩ |
    ⟨-, w, i, k, -, -, -, rfl⟩ | ⟨-, rfl⟩ | ⟨-, rfl⟩
  · rcases s.idleStep_q with kept | popped
    · exact .inl (by rw [kept])
    · exact .inr ⟨hs, popped⟩
  · exact .inl (s.q_prefix_execHalf_prepareOf _ k w i)
  · exact .inl List.prefix_rfl
  · exact .inl List.prefix_rfl
  · exact .inl (s.q_prefix_evalHalf _ k w)
  · exact .inl (s.q_prefix_sweepStep _)
  · exact .inl List.prefix_rfl

/-- Of the other agents only ENQUEUE and RESET touch the FIFO, and ENQUEUE adds at its tail (R83). -/
theorem step_q {s t : State} (h : step s = .next t) (noReset : s.nextAction ≠ .reset) :
    s.q <+: t.q ∨ (s.seqState = .idle ∧ HeadPopped s t) := by
  rcases step_cases h with ⟨-, hb⟩ | ⟨w, -, rfl⟩ | ⟨-, rfl⟩ | ⟨-, rfl⟩ | ⟨ha, -⟩ | ⟨i, -, rfl⟩ | ⟨b, -, hr⟩ | ⟨-, rfl⟩
  · exact blockStep_q (s := s.popAction) hb
  · exact .inl (s.popAction.q_prefix_hostEnqueue _ w)
  · exact .inl (by rw [State.tick_q, State.popAction_q])
  · exact .inl List.prefix_rfl
  · exact absurd ha noReset
  · exact .inl List.prefix_rfl
  · exact .inl (by rw [State.rxByte_q hr, State.popAction_q])
  · exact .inl (by rw [State.rxTimeout_q, State.popAction_q])

end Sys2Proof.Machine

namespace Sys2Proof

/-- Settles O14: SEND is the one step that adds a frame, and the invariant has the request of the job in TX_BUF there. -/
theorem everyStepKeepsSentFramesLegal : Obligations.EveryStepKeepsSentFramesLegal :=
  fun _ _ hinv hsent hstep => hsent.step hinv hstep

/-- Settles O43, from what a step can do to the FIFO: the words after the old queue are those added. -/
theorem fifoKeepsItsOrder : Obligations.FifoKeepsItsOrder := by
  intro s t h noReset
  rcases Machine.step_q h noReset with ⟨added, hq⟩ | popped
  · exact .inl ⟨added, hq.symm⟩
  · exact .inr popped

end Sys2Proof

/-! Encoding (30_encoding.md): the job words and FUNC bytes, the request frames, and the reports. -/

namespace Sys2Proof

/-! Job words by their fields (R100, R101, R109). -/

theorem kind_cases (k : BitVec 3) :
    k = 0#3 ∨ k = 1#3 ∨ k = 2#3 ∨ k = 3#3 ∨ k = 4#3 ∨ k = 5#3 ∨ k = 6#3 ∨ k = 7#3 := by
  revert k
  decide

/-- The decoder on the fields of a word: what the match and mask of each row ask of them (R101). -/
theorem decodeJob_eq (w : JobWord) :
    decodeJob w =
      if kindField w = 0#3 ∧ unitField w = 0#1 ∧ reservedLowField w = 0#4 ∧ argField w = 0#8 ∧
          reservedHighField w = 0#8 then .ok (.poll (addrField w))
      else if kindField w = 1#3 ∧ unitField w = 0#1 ∧ reservedLowField w = 0#4 ∧ argField w = 0#8 ∧
          reservedHighField w = 0#8 then .ok (.syncClock (addrField w))
      else if kindField w = 2#3 ∧ reservedLowField w = 0#4 ∧ reservedHighField w = 0#8 then
        .ok (.setTemp (addrField w) (argField w) (unitOfBit (unitField w)))
      else if kindField w = 3#3 ∧ unitField w = 0#1 ∧ reservedLowField w = 0#4 ∧ argField w &&& 0xFE#8 = 0#8 ∧
          reservedHighField w = 0#8 then .ok (.setHotWater (addrField w) (onField w))
      else if kindField w = 4#3 ∧ unitField w = 0#1 ∧ reservedLowField w = 0#4 ∧ argField w = 0#8 ∧
          reservedHighField w = 0#8 then .ok (.probe (addrField w))
      else .error (illegalReason w) := by
  unfold decodeJob
  rw [show 0x00000000#32 = jobWord 0#3 0#1 0#8 0#8 by decide, show 0x00000001#32 = jobWord 1#3 0#1 0#8 0#8 by decide,
    show 0x00000004#32 = jobWord 4#3 0#1 0#8 0#8 by decide]
  simp only [selects_plain_iff, selects_setTemp_iff, selects_setHotWater_iff]

@[simp] theorem unitOfBit_bitOfUnit (u : TempUnit) : unitOfBit (bitOfUnit u) = u := by
  cases u <;> rfl

@[simp] theorem bitOfUnit_unitOfBit (b : BitVec 1) : bitOfUnit (unitOfBit b) = b := by
  revert b
  decide

@[simp] theorem getElem_onArgument (on : Bool) : (onArgument on)[0] = on := by
  cases on <;> rfl

@[simp] theorem onArgument_reserved (on : Bool) : onArgument on &&& 0xFE#8 = 0#8 := by
  cases on <;> rfl

/-- An ARG whose bits 7:1 are 0 is the one of its bit 0 (R100). -/
theorem onArgument_getLsbD {g : Byte} : g &&& 0xFE#8 = 0#8 → onArgument (g.getLsbD 0) = g := by
  revert g
  decide

theorem onField_eq (w : JobWord) : onField w = (argField w).getLsbD 0 := by
  simp [onField, argField]

/-- The word of a job selects its own row: KIND, UNIT and the reserved fields are as the row asks, and the operands stand in
their fields. -/
theorem decode_encode (i : Instr) : decode (encode i) = .ok i := by
  cases i with
  | poll a => simp [encode, decode, decodeJob_eq]
  | syncClock a => simp [encode, decode, decodeJob_eq]
  | setTemp a t u => simp [encode, decode, decodeJob_eq]
  | setHotWater a on => simp [encode, decode, decodeJob_eq]
  | probe a => simp [encode, decode, decodeJob_eq]
  | read => rfl
  | write => rfl

/-- A code that is an instruction's decodes to it. -/
theorem decode_of_encode {i : Instr} {c : Code} (h : encode i = c) : decode c = .ok i := by
  rw [← h, decode_encode]

/-- A word that decodes is made of its KIND and operands alone, in the row it selects. -/
theorem encode_of_decodeJob {w : JobWord} {i : Instr} (h : decodeJob w = .ok i) : encode i = .job w := by
  rw [decodeJob_eq] at h
  split_ifs at h with hp hs ht hw hb <;> cases h
  · obtain ⟨hk, hu, hl, hg, hh⟩ := hp
    rw [encode, word_eq_jobWord w hl hh, hk, hu, hg, addrField_jobWord]
  · obtain ⟨hk, hu, hl, hg, hh⟩ := hs
    rw [encode, word_eq_jobWord w hl hh, hk, hu, hg, addrField_jobWord]
  · obtain ⟨hk, hl, hh⟩ := ht
    rw [encode, bitOfUnit_unitOfBit, ← hk, ← word_eq_jobWord w hl hh]
  · obtain ⟨hk, hu, hl, hg, hh⟩ := hw
    rw [encode, onField_eq, onArgument_getLsbD hg, ← hk, ← hu, ← word_eq_jobWord w hl hh]
  · obtain ⟨hk, hu, hl, hg, hh⟩ := hb
    rw [encode, word_eq_jobWord w hl hh, hk, hu, hg, addrField_jobWord]

theorem encode_of_decodeFunc {b : Byte} {i : Instr} (h : decodeFunc b = .ok i) : encode i = .func b := by
  unfold decodeFunc at h
  split_ifs at h with hr hw <;> cases h
  · rw [hr]; rfl
  · rw [hw]; rfl

/-- KIND is in the mask of every row, so a word selects only a row of its own KIND (R101). -/
theorem kindField_of_selectedBy {r : JobRow} (hr : r ∈ jobRows) {w : JobWord} (h : r.selectedBy w = true) :
    kindField r.pattern = kindField w := by
  have masked : ∀ r ∈ jobRows, kindField r.mask = BitVec.allOnes 3 := by decide
  obtain ⟨hk, -⟩ := (and_eq_iff w r.mask r.pattern).1 (beq_iff_eq.1 h)
  rw [← hk, masked r hr, BitVec.and_allOnes]

/-- The rows have different KINDs, so no word selects two (R108). -/
theorem selectedRows_length_le (w : JobWord) : (selectedRows w).length ≤ 1 := by
  have separate : ∀ k : BitVec 3, jobRows.countP (fun r => kindField r.pattern == k) ≤ 1 := by decide
  calc (selectedRows w).length
    _ = jobRows.countP (·.selectedBy w) := List.countP_eq_length_filter.symm
    _ ≤ jobRows.countP (fun r => kindField r.pattern == kindField w) :=
      List.countP_mono_left fun _ hr h => beq_iff_eq.2 (kindField_of_selectedBy hr h)
    _ ≤ 1 := separate _

namespace Machine

theorem exists_ite_ok {ε α : Type} {c : Prop} [Decidable c] (a : α) (e : Except ε α) :
    (∃ b, (if c then .ok a else e) = .ok b) ↔ c ∨ ∃ b, e = .ok b := by
  split_ifs with h <;> simp [h]

/-- The legal words, by their fields (R101, R109). -/
theorem legalWord_iff_fields (w : JobWord) :
    legalWord w = true ↔
      reservedLowField w = 0#4 ∧ reservedHighField w = 0#8 ∧
        (((kindField w = 0#3 ∨ kindField w = 1#3 ∨ kindField w = 4#3) ∧ unitField w = 0#1 ∧ argField w = 0#8) ∨
          kindField w = 2#3 ∨ (kindField w = 3#3 ∧ unitField w = 0#1 ∧ argField w &&& 0xFE#8 = 0#8)) := by
  rw [legalWord_iff, decodeJob_eq]
  rcases kind_cases (kindField w) with h | h | h | h | h | h | h | h <;>
    simp [h, exists_ite_ok, and_assoc, and_comm, and_left_comm]

/-- The illegal words, by their fields (R109). -/
theorem legalWord_eq_false_iff (w : JobWord) :
    legalWord w = false ↔
      5 ≤ (kindField w).toNat ∨ reservedLowField w ≠ 0#4 ∨ reservedHighField w ≠ 0#8 ∨
        (unitField w ≠ 0#1 ∧ kindField w ≠ 2#3) ∨
        (argField w ≠ 0#8 ∧ kindField w ≠ 2#3 ∧ kindField w ≠ 3#3) ∨
        (argField w &&& 0xFE#8 ≠ 0#8 ∧ kindField w = 3#3) := by
  rw [← Bool.not_eq_true, legalWord_iff_fields]
  rcases kind_cases (kindField w) with h | h | h | h | h | h | h | h <;> simp [h] <;> tauto

/-- ENQUEUE answers ACCEPTED to legal words only (10_state.md R22). -/
theorem legalWord_of_accepted {s : State} {cfg : Config} {w : JobWord}
    (h : (s.hostEnqueue cfg w).responses = s.responses ++ [.accepted]) : legalWord w = true := by
  rcases s.hostEnqueue_cases cfg w with ⟨hw, -⟩ | ⟨hw, -⟩ | ⟨-, he⟩
  · exact hw
  · exact hw
  · rw [he, State.addResponse_responses] at h
    simp at h

/-! The reports of a job (R105, R106, 44_sequencer.md R251, R252). -/

/-- What the CAUSE of a judged reply says of the reply; EMPTY is of the status class alone (R105). -/
def CauseOfReply (c : EvalClass) (raw : List Byte) : Cause → Prop
  | .timeout => raw.length = 0
  | .empty => c = .status ∧ (raw.length = 1 ∨ raw.length = 2)
  | .checksum => verifyCRC raw = false

/-- A judged reply gives NO_REPLY with a cause that holds of it, or one of the other outcomes of its class: OK, a record with
it exactly for a status reply, MALFORMED_BLOCK for a status reply, SHORT_REPLY for an acknowledgement (43_dispatcher.md R204,
R222). -/
theorem judge_cases (c : EvalClass) (raw : List Byte) :
    (∃ cause, CauseOfReply c raw cause ∧ judge c raw = .noReply cause) ∨
      (c = .status ∧ ∃ record, judge c raw = .ok (some record)) ∨ (c = .status ∧ judge c raw = .malformedBlock) ∨
      (c = .ack ∧ judge c raw = .ok none) ∨ (c = .ack ∧ judge c raw = .shortReply) := by
  cases c with
  | status =>
    rw [show judge .status raw = evalStatus raw from rfl, evalStatus]
    rcases decodeReply_cases raw with ⟨h, hd⟩ | ⟨h, h', hd⟩ | ⟨-, -, hd⟩ | ⟨-, h, hd⟩ <;> rw [hd]
    · exact .inl ⟨.timeout, h, rfl⟩
    · exact .inl ⟨.empty, ⟨rfl, by omega⟩, rfl⟩
    · cases parseStatusBlock raw with
      | ok record => exact .inr (.inl ⟨rfl, record, rfl⟩)
      | error _ => exact .inr (.inr (.inl ⟨rfl, rfl⟩))
    · exact .inl ⟨.checksum, h, rfl⟩
  | ack =>
    rw [show judge .ack raw = checkAck raw from rfl, checkAck]
    split_ifs with empty short verified
    · exact .inl ⟨.timeout, empty, rfl⟩
    · exact .inr (.inr (.inr (.inr ⟨rfl, rfl⟩)))
    · exact .inr (.inr (.inr (.inl ⟨rfl, rfl⟩)))
    · exact .inl ⟨.checksum, Bool.eq_false_of_not_eq_true verified, rfl⟩

theorem causeOfReply_of_judge {c : EvalClass} {raw : List Byte} {cause : Cause} (h : judge c raw = .noReply cause) :
    CauseOfReply c raw cause := by
  rcases judge_cases c raw with ⟨cause', holds, hj⟩ | ⟨-, r, hj⟩ | ⟨-, hj⟩ | ⟨-, hj⟩ | ⟨-, hj⟩ <;> cases hj.symm.trans h
  exact holds

/-- A result that a job of the kind can end with: an outcome and a cause of the kind, and a record exactly for OK of a status
read (R105, R106, 60_exceptions.md R271). -/
def ResultSound (k : JobKind) (r : JobResult) : Prop :=
  outcomePossible k r.outcome = true ∧ causePossible k r.outcome r.causeCode = true ∧
    r.record.isSome = decide (r.outcome = .ok ∧ evalClass k = .status)

/-- The kind's own class judges its replies. -/
theorem resultSound_judge (k : JobKind) (raw : List Byte) : ResultSound k (judge (evalClass k) raw) := by
  rcases judge_cases (evalClass k) raw with ⟨cause, holds, hj⟩ | ⟨hc, r, hj⟩ | ⟨hc, hj⟩ | ⟨hc, hj⟩ | ⟨hc, hj⟩ <;> rw [hj]
  · cases cause with
    | timeout => exact ⟨rfl, rfl, rfl⟩
    | empty => exact ⟨rfl, by simp [causePossible, JobResult.outcome, JobResult.causeCode, Cause.code, holds.1], rfl⟩
    | checksum => exact ⟨rfl, by simp [causePossible, JobResult.outcome, JobResult.causeCode, Cause.code], rfl⟩
  · exact ⟨rfl, rfl, by simp [JobResult.record, JobResult.outcome, hc]⟩
  · exact ⟨by simp [outcomePossible, JobResult.outcome, hc], rfl, rfl⟩
  · exact ⟨rfl, rfl, by simp [JobResult.record, hc]⟩
  · exact ⟨by simp [outcomePossible, JobResult.outcome, hc], rfl, rfl⟩

/-- An early outcome is CONFIGURATION, or OUT_OF_RANGE of a SET_TEMP (43_dispatcher.md R202, R217). -/
theorem prepareOf_early {i : Instr} {k : JobKind} (hk : i.jobKind = some k) {cfg : Config} {s : State} {r : JobResult}
    (h : prepareOf i cfg s = .early r) : r = .configuration ∨ (k = .setTemp ∧ r = .outOfRange) := by
  cases i with
  | poll a =>
    rcases preparePoll_cases a cfg s with ⟨-, hp⟩ | ⟨-, hp⟩ <;> cases hp.symm.trans h
    exact .inl rfl
  | syncClock a =>
    rcases prepareSyncClock_cases a cfg s with ⟨-, hp⟩ | ⟨-, hp⟩ <;> cases hp.symm.trans h
    exact .inl rfl
  | setTemp a v u =>
    cases hk
    rcases prepareSetTemp_cases a v u cfg s with ⟨-, -, hp⟩ | ⟨-, -, hp⟩ | ⟨-, hp⟩ <;> cases hp.symm.trans h
    · exact .inr ⟨rfl, rfl⟩
    · exact .inl rfl
  | setHotWater a on =>
    rcases prepareSetHotWater_cases a on cfg s with ⟨-, hp⟩ | ⟨-, hp⟩ <;> cases hp.symm.trans h
    exact .inl rfl
  | probe a =>
    rcases prepareProbe_cases a cfg s with ⟨-, hp⟩ | ⟨-, hp⟩ <;> cases hp.symm.trans h
    exact .inl rfl
  | read => cases hk
  | write => cases hk

theorem resultSound_early {i : Instr} {k : JobKind} (hk : i.jobKind = some k) {cfg : Config} {s : State} {r : JobResult}
    (h : prepareOf i cfg s = .early r) : ResultSound k r := by
  rcases prepareOf_early hk h with rfl | ⟨rfl, rfl⟩ <;> exact ⟨rfl, rfl, rfl⟩

/-- A job that is retried has an outcome that goes back to the FIFO (44_sequencer.md R251). -/
theorem requeuePossible_eq_retry (cfg : Config) (k : JobKind) (r : JobResult) :
    requeuePossible cfg k r.outcome = retry cfg k r := by
  cases r with
  | noReply cause => cases k <;> simp [requeuePossible, retry, JobResult.outcome]
  | ok | shortReply | malformedBlock | outOfRange | configuration => rfl

theorem kindOfWord_eq {w : JobWord} {i : Instr} {k : JobKind} (hi : decodeJob w = .ok i) (hk : i.jobKind = some k) :
    kindOfWord w = some k := by
  simp [kindOfWord, hi, hk]

/-- The report of a job's end is sound: REQUEUED only where R251 retries, PRESENT as R106 gives it. -/
theorem reportSound_jobReport {k : JobKind} {w : JobWord} {r : JobResult} {requeued : Bool} (hw : kindOfWord w = some k)
    (hr : ResultSound k r) (again : requeued = true → retry Config.ofBlock k r = true) :
    reportSound (jobReport k w r requeued) = true := by
  obtain ⟨outcome, cause, record⟩ := hr
  have requeue : (!requeued || requeuePossible Config.ofBlock k r.outcome) = true := by
    cases requeued with
    | false => rfl
    | true => rw [requeuePossible_eq_retry, again rfl]; rfl
  have present : presentBit k r = decide (k = .probe ∧ (r.outcome = .ok ∨ r.outcome = .malformedBlock)) := by
    rw [presentBit, Bool.decide_and, Bool.decide_or]
  simp only [reportSound, jobReport, hw, outcome, cause, requeue, present, record,
    beq_self_eq_true, Bool.and_self]

/-- So is the report of a legal job lost to a full FIFO (44_sequencer.md R234). -/
theorem reportSound_overflowReport {w : JobWord} (hw : legalWord w = true) : reportSound (overflowReport w) = true := by
  obtain ⟨i, hi⟩ := (legalWord_iff w).1 hw
  obtain ⟨k, hk⟩ := decodeJob_kind hi
  simp [reportSound, overflowReport, kindOfWord_eq hi hk, outcomePossible, causePossible]

theorem ReportsSound.of_reports {s t : State} (h : ReportsSound s) (kept : t.reports = s.reports) : ReportsSound t := by
  unfold ReportsSound
  rwa [kept]

theorem ReportsSound.of_append {s t : State} (h : ReportsSound s) {added : List Report}
    (grown : t.reports = s.reports ++ added) (sound : ∀ r ∈ added, reportSound r = true) : ReportsSound t := by
  unfold ReportsSound
  rw [grown]
  exact List.forall_mem_append.2 ⟨h, sound⟩

/-- A job that ends puts out its own report and, when a retry finds the FIFO full, that of its loss (60_exceptions.md R275,
R276). -/
theorem ReportsSound.endJob {s : State} (h : ReportsSound s) {w : JobWord} {i : Instr} {k : JobKind} {r : JobResult}
    (hi : decodeJob w = .ok i) (hk : i.jobKind = some k) (hr : ResultSound k r) :
    ReportsSound (s.endJob Config.ofBlock k w r) := by
  have kind := kindOfWord_eq hi hk
  rcases s.endJob_cases Config.ofBlock k w r with ⟨-, -, -, hp⟩ | ⟨again, -, -, -, hp⟩ | ⟨-, -, -, -, hp⟩ <;>
    refine h.of_append hp ?_
  · exact List.forall_mem_singleton.2 (reportSound_jobReport kind hr nofun)
  · exact List.forall_mem_singleton.2 (reportSound_jobReport kind hr fun _ => again)
  · exact List.forall_mem_cons.2 ⟨reportSound_jobReport kind hr nofun,
      List.forall_mem_singleton.2 (reportSound_overflowReport ((legalWord_iff w).2 ⟨i, hi⟩))⟩

theorem ReportsSound.enqueueAll {s : State} (h : ReportsSound s) (cfg : Config) {ws : List JobWord}
    (legal : ∀ w ∈ ws, legalWord w = true) : ReportsSound (s.enqueueAll cfg ws) := by
  refine h.of_append (congrArg State.reports (s.enqueueAll_eq cfg ws)) (List.forall_mem_map.2 fun w hw => ?_)
  exact reportSound_overflowReport (legal w (List.mem_of_mem_drop hw))

/-- The SWEEP step reports the lost words of its sweeps, all of them legal (44_sequencer.md R245). -/
theorem ReportsSound.sweepStep {s : State} (h : ReportsSound s) (cfg : Config) : ReportsSound (s.sweepStep cfg) := by
  have polled : ReportsSound (s.pollSweep cfg) := by
    rcases s.pollSweep_cases cfg with ⟨-, he⟩ | ⟨-, he⟩ <;> rw [he]
    · exact ReportsSound.enqueueAll (s := s.withLastPoll s.host.now) h cfg
        (List.forall_mem_map.2 fun a _ => legalWord_pollWord a)
    · exact h
  rcases (s.pollSweep cfg).syncSweep_cases cfg with ⟨-, he⟩ | ⟨-, he⟩ <;> rw [State.sweepStep, he]
  · exact ReportsSound.enqueueAll (s := (s.pollSweep cfg).withLastSync (s.pollSweep cfg).host.now) polled cfg
      (List.forall_mem_map.2 fun a _ => legalWord_syncWord a)
  · exact polled

/-- EXEC ends the job with an early outcome, or hands a frame to SEND without a report (44_sequencer.md R236, R237). -/
theorem ReportsSound.execHalf {s : State} (h : ReportsSound s) {w : JobWord} {i : Instr} {k : JobKind}
    (hi : decodeJob w = .ok i) (hk : i.jobKind = some k) :
    ReportsSound (s.execHalf Config.ofBlock k w (prepareOf i Config.ofBlock s)) := by
  rcases s.execHalf_cases Config.ofBlock k w (prepareOf i Config.ofBlock s) with ⟨r, hp, he⟩ | ⟨t, hp, he⟩ <;> rw [he]
  · exact h.endJob hi hk (resultSound_early hk hp)
  · obtain ⟨c, d, a, e, p, rfl⟩ := prepareOf_frame hp
    exact h

theorem ReportsSound.blockStep {s t : State} (h : ReportsSound s) (hb : blockStep s = .next t) : ReportsSound t := by
  rcases blockStep_cases hb with ⟨-, rfl⟩ | ⟨-, w, i, k, -, hi, hk, rfl⟩ | ⟨-, -, rfl⟩ | ⟨-, rfl⟩ |
    ⟨-, w, i, k, -, hi, hk, rfl⟩ | ⟨-, rfl⟩ | ⟨-, rfl⟩
  · exact h.of_reports s.idleStep_reports
  · exact h.execHalf hi hk
  · exact h.of_reports s.sendFrame_reports
  · exact h
  · exact ReportsSound.endJob (s := s.withCrc (crcAfterJudge (evalClass k) s.crc s.rxBuf)) h hi hk
      (resultSound_judge k s.rxBuf)
  · exact h.sweepStep _
  · exact h

theorem State.rxByte_reports {s t : State} {b : Byte} (h : s.rxByte Config.ofBlock b = .next t) :
    t.reports = s.reports := by
  rcases State.rxByte_cases h with ⟨-, -, rfl⟩ | ⟨-, rfl⟩
  · exact s.storeByte_reports b
  · rfl

@[simp] theorem State.rxTimeout_reports (s : State) : s.rxTimeout.reports = s.reports := by
  unfold State.rxTimeout
  split <;> rfl

/-- Only the BLOCK puts out reports, so every other agent's step keeps them (10_state.md R27). -/
theorem ReportsSound.step {s t : State} (sound : ReportsSound s) (hstep : step s = .next t) : ReportsSound t := by
  have h : ReportsSound s.popAction := sound
  rcases step_cases hstep with ⟨-, hb⟩ | ⟨w, -, rfl⟩ | ⟨-, rfl⟩ | ⟨-, rfl⟩ | ⟨-, rfl⟩ | ⟨i, -, rfl⟩ | ⟨b, -, hr⟩ |
    ⟨-, rfl⟩
  · exact h.blockStep hb
  · exact h.of_reports (s.popAction.hostEnqueue_reports _ w)
  · exact h.of_reports s.popAction.tick_reports
  · exact h
  · exact h
  · exact h
  · exact h.of_reports (State.rxByte_reports hr)
  · exact h.of_reports s.popAction.rxTimeout_reports

/-- The retry decision is the table of R251. -/
theorem retry_eq_shouldRetry (cfg : Config) (k : JobKind) (r : JobResult) : retry cfg k r = Claim.shouldRetry cfg k r := by
  cases r with
  | noReply cause => cases k <;> rfl
  | ok | shortReply | malformedBlock | outOfRange | configuration => cases k <;> rfl

theorem causeCode_eq_causeOf (r : JobResult) : r.causeCode = Claim.causeOf r := by
  cases r with
  | noReply cause => cases cause <;> rfl
  | ok | shortReply | malformedBlock | outOfRange | configuration => rfl

theorem outcome_eq_outcomeOf (r : JobResult) : r.outcome = Claim.outcomeOf r := by
  cases r <;> rfl

/-- OUT_OF_RANGE and CONFIGURATION come from EXEC alone (43_dispatcher.md R202). -/
theorem judge_ne_early (c : EvalClass) (raw : List Byte) : judge c raw ≠ .outOfRange ∧ judge c raw ≠ .configuration := by
  rcases judge_cases c raw with ⟨_, -, hj⟩ | ⟨-, _, hj⟩ | ⟨-, hj⟩ | ⟨-, hj⟩ | ⟨-, hj⟩ <;> rw [hj] <;> exact ⟨nofun, nofun⟩

end Machine

/-- Settles O2, by the decoder on the fields of a job's word. -/
theorem decodeOfEncodeIsIdentity : Obligations.DecodeOfEncodeIsIdentity := decode_encode

/-- Settles O6: the length and FUNC of a well-formed frame are those of its payload, and its own CRC verifies. -/
theorem requestFrameRoundTrip : Obligations.RequestFrameRoundTrip := fun _ => Machine.decodeRequest_encodeRequest

/-- Settles O13: what ends a job gives it a result of its kind, and a lost word is legal. Only a word that decodes is run, so
the invariant is not needed. -/
theorem everyStepKeepsReportsSound : Obligations.EveryStepKeepsReportsSound := fun _ _ _ h => h.step

/-- Settles O3, by the fields that the row of a decoded word fixes. -/
theorem encodeOfDecodeIsIdentity : Obligations.EncodeOfDecodeIsIdentity
  | .job _, _, h => encode_of_decodeJob h
  | .func _, _, h => encode_of_decodeFunc h

/-- Settles O4: KIND separates the rows. -/
theorem legalWordSelectsExactlyOneRow : Obligations.LegalWordSelectsExactlyOneRow := by
  refine fun w => ⟨(Machine.wellFormedWord_eq_legalWord w).symm, selectedRows_length_le w, fun cfg s h => ?_⟩
  rw [Machine.wellFormedWord_eq_legalWord]
  exact Machine.legalWord_of_accepted h

/-- Settles O5, by the fields of the legal words. -/
theorem illegalWordsAreRejected : Obligations.IllegalWordsAreRejected :=
  fun _ _ w => ⟨Machine.legalWord_eq_false_iff w, Machine.State.hostEnqueue_rejectIllegal⟩

/-- Settles O1: each example is the code of its instruction; the two refusals are computed. -/
theorem exampleCodesDecode : Obligations.ExampleCodesDecode :=
  ⟨decode_of_encode (by decide), decode_of_encode (by decide), decode_of_encode (by decide),
    decode_of_encode (by decide), decode_of_encode (by decide), decode_of_encode (by decide),
    decode_of_encode rfl, decode_of_encode rfl, by decide, by decide⟩

/-- Settles O40, by what each class can judge a reply as. -/
theorem outcomeCodesAndRetryTable : Obligations.OutcomeCodesAndRetryTable :=
  ⟨⟨rfl, rfl, rfl, rfl, rfl, rfl, rfl⟩, ⟨rfl, rfl, rfl⟩,
    fun r => ⟨Machine.outcome_eq_outcomeOf r, Machine.causeCode_eq_causeOf r⟩,
    fun _ _ => ⟨Machine.causeOfReply_of_judge, Machine.causeOfReply_of_judge, Machine.causeOfReply_of_judge⟩,
    Machine.retry_eq_shouldRetry, Machine.judge_ne_early⟩

end Sys2Proof

/-! The CRC engine (40_crc.md): the trailer operations, and the nibble engine against the bitwise CRC. -/

namespace Sys2Proof.Machine

open Claim

/-! The trailer: what appendCRC writes and what verifyCRC reads (40_crc.md R124, R125). -/

theorem appendCRC_short {buf : List Byte} (h : buf.length < 2) : appendCRC buf = none := if_pos h

theorem appendCRC_of_two_le {buf : List Byte} (h : 2 ≤ buf.length) : appendCRC buf = some (sealBody (crcBody buf)) :=
  if_neg (by omega)

/-- What appendCRC answers is the sealed body of a buffer of two bytes or more. -/
theorem appendCRC_eq_some_iff {buf out : List Byte} :
    appendCRC buf = some out ↔ 2 ≤ buf.length ∧ sealBody (crcBody buf) = out := by
  by_cases h : buf.length < 2
  · simp [appendCRC_short h, h]
  · simp [appendCRC_of_two_le (Nat.le_of_not_lt h), Nat.le_of_not_lt h]

@[simp] theorem crcBody_length (buf : List Byte) : (crcBody buf).length = buf.length - 2 := by
  simp [crcBody]

/-- Sealing its body keeps a buffer's length: the trailer takes the place of the last two bytes. -/
theorem sealBody_crcBody_length {buf : List Byte} (h : 2 ≤ buf.length) :
    (sealBody (crcBody buf)).length = buf.length := by
  simp only [sealBody_length, crcBody_length]
  omega

/-- Before the trailer, sealing a buffer's body keeps its bytes. -/
theorem getElem?_sealBody_crcBody {buf : List Byte} {i : Nat} (h : i < buf.length - 2) :
    (sealBody (crcBody buf))[i]? = buf[i]? := by
  rw [sealBody, List.getElem?_append_left (by simpa using h), crcBody, List.getElem?_take_of_lt h]

theorem getElem?_sealBody_lo (body : List Byte) : (sealBody body)[body.length]? = some (computeCRC body).lo := by
  simp [sealBody, crcTrailer]

theorem getElem?_sealBody_hi (body : List Byte) : (sealBody body)[body.length + 1]? = some (computeCRC body).hi := by
  simp [sealBody, crcTrailer]

/-- The last two bytes of a buffer, as a list and by their positions. -/
theorem drop_length_sub_two_eq_iff {buf : List Byte} (h : 2 ≤ buf.length) (a b : Byte) :
    buf.drop (buf.length - 2) = [a, b] ↔ buf[buf.length - 2]? = some a ∧ buf[buf.length - 1]? = some b := by
  have hlast : buf.length - 2 + 1 = buf.length - 1 := by omega
  have hend : buf.length - 1 + 1 = buf.length := by omega
  rw [List.drop_eq_getElem_cons (by omega), List.drop_eq_getElem_cons (by omega),
    List.getElem?_eq_getElem (by omega), List.getElem?_eq_getElem (by omega)]
  simp [hlast, hend]

theorem verifyCRC_short {buf : List Byte} (h : buf.length < 3) : verifyCRC buf = false := if_pos h

/-- What verifyCRC accepts (R125). -/
theorem verifyCRC_iff (buf : List Byte) :
    verifyCRC buf = true ↔
      3 ≤ buf.length ∧ buf.drop (buf.length - 2) = crcTrailer (computeCRC (crcBody buf)) := by
  by_cases h : buf.length < 3
  · simp [verifyCRC_short h, h]
  · simp [verifyCRC, h, Nat.le_of_not_lt h]

/-! The words of the engine as concatenations (00_scope.md R12). -/

theorem joinBytes_eq_append (hi lo : Byte) : joinBytes hi lo = hi ++ lo := by
  rw [joinBytes, BitVec.append_def, BitVec.shiftLeftZeroExtend_eq, BitVec.setWidth'_eq]

theorem joinNibbles_eq_append (hi lo : Nibble) : joinNibbles hi lo = hi ++ lo := by
  rw [joinNibbles, BitVec.append_def, BitVec.shiftLeftZeroExtend_eq, BitVec.setWidth'_eq]

/-- A byte is its two nibbles. -/
theorem highNibble_append_lowNibble (b : Byte) : highNibble b ++ lowNibble b = b := by
  rw [highNibble, lowNibble, BitVec.extractLsb'_append_extractLsb'_eq_extractLsb' (start₁ := 0) (len₁ := 4) rfl]
  exact BitVec.extractLsb'_eq_self

/-- CRC_HI and CRC_LO as one 16-bit word, CRC_HI in the high bits. -/
def CrcAcc.word (acc : CrcAcc) : HalfWord := joinBytes acc.hi acc.lo

theorem joinBytes_toNat (hi lo : Byte) : (joinBytes hi lo).toNat = hi.toNat * 256 + lo.toNat := by
  rw [joinBytes_eq_append, BitVec.toNat_append, ← Nat.shiftLeft_add_eq_or_of_lt lo.isLt, Nat.shiftLeft_eq]

/-! The bitwise CRC, a nibble at a time (40_crc.md R128). -/

/-- The bits of a nibble, the most significant first. -/
def nibbleBits (n : Nibble) : List Bool := [n.getLsbD 3, n.getLsbD 2, n.getLsbD 1, n.getLsbD 0]

/-- The bitwise CRC goes on over one nibble. -/
def crcNibble (acc : HalfWord) (n : Nibble) : HalfWord := (nibbleBits n).foldl crcBit acc

/-- A byte's bits are those of its high nibble, then of its low one (R71). -/
theorem bitsOf_eq (b : Byte) : bitsOf b = nibbleBits (highNibble b) ++ nibbleBits (lowNibble b) := by
  simp [bitsOf, nibbleBits, highNibble, lowNibble, List.range_succ]

theorem foldl_crcBit_bitsOf (acc : HalfWord) (b : Byte) :
    (bitsOf b).foldl crcBit acc = crcNibble (crcNibble acc (highNibble b)) (lowNibble b) := by
  rw [bitsOf_eq, List.foldl_append, crcNibble, crcNibble]

/-- What a bit step adds to the shifted word: the generator when a one leaves it. -/
def feedback (b : Bool) : HalfWord := if b then 0x1021#16 else 0#16

theorem feedback_xor (b c : Bool) : feedback (b ^^ c) = feedback b ^^^ feedback c := by
  cases b <;> cases c <;> rfl

theorem crcBit_eq (x : HalfWord) (b : Bool) : crcBit x b = x <<< 1 ^^^ feedback (x.msb ^^ b) := by
  unfold crcBit feedback
  split <;> simp

/-- A bit step is linear over XOR. -/
theorem crcBit_xor (x y : HalfWord) (b c : Bool) : crcBit (x ^^^ y) (b ^^ c) = crcBit x b ^^^ crcBit y c := by
  simp only [crcBit_eq, BitVec.msb_xor, BitVec.shiftLeft_xor_distrib, feedback_xor]
  ac_rfl

/-- So is a nibble's. -/
theorem crcNibble_xor (x y : HalfWord) (m n : Nibble) :
    crcNibble (x ^^^ y) (m ^^^ n) = crcNibble x m ^^^ crcNibble y n := by
  simp [crcNibble, nibbleBits, crcBit_xor]

theorem crcBit_false {x : HalfWord} (h : x.msb = false) : crcBit x false = x <<< 1 := by
  simp [crcBit, h]

/-- A word whose high nibble is zero is only shifted by a zero nibble. -/
theorem crcNibble_zero {x : HalfWord} (h : ∀ i < 4, x.getMsbD i = false) : crcNibble x 0#4 = x <<< 4 := by
  have kept : ∀ i < 4, crcBit (x <<< i) false = x <<< (i + 1) := fun i hi => by
    rw [crcBit_false (by rw [BitVec.msb_shiftLeft, h i hi]), BitVec.shiftLeft_add]
  calc crcNibble x 0#4 = crcBit (crcBit (crcBit (crcBit (x <<< 0) false) false) false) false := by
        simp [crcNibble, nibbleBits]
    _ = x <<< 4 := by simp only [kept, Nat.reduceLT, Nat.reduceAdd]

/-- With its high nibble zero, a word and a zero nibble give the word's three low nibbles, moved up. -/
theorem crcNibble_zero_of_low (h l₁ l₀ : Nibble) :
    crcNibble ((0#4 ++ h) ++ (l₁ ++ l₀)) 0#4 = (h ++ l₁) ++ (l₀ ++ 0#4) := by
  rw [crcNibble_zero]
  · apply BitVec.eq_of_getLsbD_eq
    intro i hi
    simp only [BitVec.getLsbD_shiftLeft, BitVec.getLsbD_append, BitVec.getLsbD_zero]
    grind
  · intro i hi
    rw [BitVec.getMsbD_append, if_neg (by omega), BitVec.getMsbD_append, if_neg (by omega), BitVec.getMsbD_zero]

/-- The tables hold what four bit steps make of the nibble that leaves, XORed with the one that comes (R120, R122). -/
theorem crcNibble_top (h n : Nibble) :
    crcNibble ((h ++ 0#4) ++ 0#8) n = romHi (h ^^^ n) ++ romLo (h ^^^ n) := by
  revert h n
  decide

/-- NIB is four bit steps: by linearity the high nibble of the word, which the tables take, parts from the rest, which is
only shifted (R122). -/
theorem nib_word (acc : CrcAcc) (n : Nibble) : (nib acc n).word = crcNibble acc.word n := by
  obtain ⟨hi, lo⟩ := acc
  set t := highNibble hi ^^^ n with ht
  have split : CrcAcc.word ⟨hi, lo⟩ =
      ((highNibble hi ++ 0#4) ++ 0#8) ^^^ ((0#4 ++ lowNibble hi) ++ (highNibble lo ++ lowNibble lo)) := by
    rw [BitVec.xor_append, BitVec.xor_append, highNibble_append_lowNibble, CrcAcc.word, joinBytes_eq_append]
    simp [highNibble_append_lowNibble]
  calc (nib ⟨hi, lo⟩ n).word
      = (romHi t ++ romLo t) ^^^ ((lowNibble hi ++ highNibble lo) ++ (lowNibble lo ++ 0#4)) := by
        rw [BitVec.xor_append, BitVec.xor_comm (romHi t), BitVec.xor_comm (romLo t)]
        simp only [nib, CrcAcc.word, joinBytes_eq_append, joinNibbles_eq_append, ht]
    _ = crcNibble ((highNibble hi ++ 0#4) ++ 0#8) n ^^^
          crcNibble ((0#4 ++ lowNibble hi) ++ (highNibble lo ++ lowNibble lo)) 0#4 := by
        rw [crcNibble_top, crcNibble_zero_of_low]
    _ = crcNibble (CrcAcc.word ⟨hi, lo⟩) n := by
        rw [← crcNibble_xor, BitVec.xor_zero, split]

/-- One byte of the engine is eight bit steps (R123). -/
theorem crcByte_word (acc : CrcAcc) (b : Byte) : (crcByte acc b).word = (bitsOf b).foldl crcBit acc.word := by
  rw [foldl_crcBit_bitsOf, crcByte, nib_word, nib_word]

/-- The engine and the bitwise CRC agree from every value of the accumulators, not only the initial one. -/
theorem foldl_crcByte_word (bytes : List Byte) (acc : CrcAcc) :
    (bytes.foldl crcByte acc).word = (bytes.flatMap bitsOf).foldl crcBit acc.word := by
  induction bytes generalizing acc with
  | nil => rfl
  | cons b bytes ih =>
    rw [List.foldl_cons, List.flatMap_cons, List.foldl_append, ih, crcByte_word]

end Sys2Proof.Machine

namespace Sys2Proof

open Machine

/-- Settles O52: appendCRC seals the bytes before the last two. -/
theorem appendCrcEffect : Obligations.AppendCrcEffect := by
  refine fun buf => ⟨appendCRC_short, fun h => ⟨_, appendCRC_of_two_le h, sealBody_crcBody_length h, ?_, ?_, ?_⟩⟩
  · exact fun i hi => getElem?_sealBody_crcBody hi
  · simpa [crcBody] using getElem?_sealBody_lo (crcBody buf)
  · have last : buf.length - 1 = (crcBody buf).length + 1 := by rw [crcBody_length]; omega
    rw [last]
    exact getElem?_sealBody_hi (crcBody buf)

/-- Settles O53: the check compares the last two bytes with the trailer that appendCRC writes. -/
theorem appendThenVerify : Obligations.AppendThenVerify := by
  refine ⟨fun buf => ?_, fun buf out h => ?_⟩
  · rw [verifyCRC_iff]
    exact and_congr_right fun three => drop_length_sub_two_eq_iff (by omega) _ _
  · obtain ⟨two, rfl⟩ := appendCRC_eq_some_iff.1 h
    refine ⟨fun three => verifyCRC_sealBody ?_, fun len => verifyCRC_short ?_⟩
    · rw [crcBody_length]; omega
    · rw [sealBody_crcBody_length two]; omega

/-- Settles O56, from the initial value 0xFFFF of both. -/
theorem nibbleEngineIsTheBitwiseCrc : Obligations.NibbleEngineIsTheBitwiseCrc := by
  intro bytes
  have word : (computeCRC bytes).word = Claim.crcBitwise bytes := foldl_crcByte_word bytes crcInit
  rw [← joinBytes_toNat, ← word, CrcAcc.word]

/-- Settles O55, for each of the sixteen nibbles. -/
theorem tablesAreMultiplesOfTheGenerator : Obligations.TablesAreMultiplesOfTheGenerator := by
  unfold Obligations.TablesAreMultiplesOfTheGenerator
  decide

end Sys2Proof

/-! The frame codec (41_frame_codec.md): what the built requests carry, and how replies and acknowledgements are checked. -/

namespace Sys2Proof.Machine

/-! Built frames (R140, R142, R144). -/

/-- The trailer that buildFrame appends is the one verifyCRC looks for, the header alone being long enough (R144). -/
theorem verifyCRC_buildFrame (d : Byte) (a e : HalfWord) (p : Option (List Byte)) :
    verifyCRC (buildFrame d a e p) = true := by
  have nonempty : 1 ≤ (requestBody d a e p).length := by
    rw [requestBody_length]
    omega
  exact verifyCRC_sealBody nonempty

/-- Byte 1 of a built frame is its length, kept modulo 256 (R140). -/
theorem buildFrame_getElem?_one (d : Byte) (a e : HalfWord) (p : Option (List Byte)) :
    (buildFrame d a e p)[1]? = some (BitVec.ofNat 8 (10 + (payloadBytes p).length)) := rfl

/-- Byte 1 carries the whole length of a frame whose length fits a byte (R142). -/
theorem exists_lengthByte_buildFrame (d : Byte) (a e : HalfWord) {p : Option (List Byte)}
    (fits : (payloadBytes p).length ≤ 245) :
    ∃ b, (buildFrame d a e p)[1]? = some b ∧ b.toNat = 10 + (payloadBytes p).length :=
  ⟨_, buildFrame_getElem?_one d a e p, (BitVec.toNat_ofNat _ 8).trans (Nat.mod_eq_of_lt (by omega))⟩

/-- The block's own frames are at most 14 bytes, so byte 1 carries their length (R142, 10_state.md R31). -/
theorem exists_lengthByte_encodeRequest {f : RequestFrame} (wf : f.wellFormed = true) :
    ∃ b, (encodeRequest f)[1]? = some b ∧ b.toNat = 10 + f.payload.length ∧ b.toNat ≤ 14 := by
  have carried := payloadBytes_payloadOf wf
  have short := wellFormed_payload_length wf
  obtain ⟨b, at1, len⟩ :=
    exists_lengthByte_buildFrame f.dest f.start f.endField (p := payloadOf f) (by rw [carried]; omega)
  rw [carried] at len
  exact ⟨b, at1, len, by omega⟩

/-! The check of a reply (R146). -/

theorem decodeReply_of_length_eq_zero {raw : List Byte} (h : raw.length = 0) : decodeReply raw = .emptyNone := if_pos h

theorem decodeReply_of_short {raw : List Byte} (h : 1 ≤ raw.length) (short : raw.length < 3) :
    decodeReply raw = .emptyShort := by
  rw [decodeReply, if_neg (by omega), if_pos short]

theorem decodeReply_of_three_le {raw : List Byte} (h : 3 ≤ raw.length) :
    decodeReply raw = if verifyCRC raw then .valid else .badCrc := by
  rw [decodeReply, if_neg (by omega), if_neg (by omega)]

/-! The check of an acknowledgement (R148), with ACK_LEN at its value. -/

theorem ackLen_eq : Config.ackLen = 7 := rfl

theorem checkAck_of_length_eq_zero {raw : List Byte} (h : raw.length = 0) : checkAck raw = .noReply .timeout := if_pos h

theorem checkAck_of_short {raw : List Byte} (h : 1 ≤ raw.length) (short : raw.length < 7) :
    checkAck raw = .shortReply := by
  rw [checkAck, ackLen_eq, if_neg (by omega), if_pos short]

theorem checkAck_of_seven_le {raw : List Byte} (h : 7 ≤ raw.length) :
    checkAck raw = if verifyCRC raw then .ok none else .noReply .checksum := by
  rw [checkAck, ackLen_eq, if_neg (by omega), if_neg (by omega)]

end Sys2Proof.Machine

namespace Sys2Proof

open Machine

/-- Settles O54: buildFrame seals its body, and byte 1 of the body is the length of the whole. -/
theorem builtFramesVerify : Obligations.BuiltFramesVerify :=
  fun dest start endOrLength payload =>
    ⟨verifyCRC_buildFrame dest start endOrLength payload, buildFrame_length dest start endOrLength payload,
      exists_lengthByte_buildFrame dest start endOrLength, fun _ => exists_lengthByte_encodeRequest⟩

/-- Settles O37: the length picks the result, and from three bytes on the CRC. -/
theorem decodeReplyResults : Obligations.DecodeReplyResults := by
  intro raw
  refine ⟨decodeReply_of_length_eq_zero, fun short => decodeReply_of_short ?_ ?_, fun three bad => ?_,
    fun three good => ?_⟩
  · omega
  · omega
  · rw [decodeReply_of_three_le three, bad, if_neg Bool.false_ne_true]
  · rw [decodeReply_of_three_le three, if_pos good]

/-- Settles O39: the three writes are of the acknowledgement class, whose judgement is checkAck. -/
theorem acknowledgementJudgement : Obligations.AcknowledgementJudgement := by
  intro raw
  refine ⟨rfl, rfl, rfl, checkAck_of_length_eq_zero, checkAck_of_short, fun seven bad => ?_, fun seven good => ?_⟩
  · rw [checkAck_of_seven_le seven, bad, if_neg Bool.false_ne_true]
  · rw [checkAck_of_seven_le seven, if_pos good]

end Sys2Proof

/-! The DCB parser (42_dcb_parser.md): one equation for the whole parse, and what its record takes from the reply. -/

namespace Sys2Proof.Machine

open Claim

/-! The kinds of a field (R68, R180 to R183), on integers. -/

/-- A big-endian pair on integers (R68). -/
theorem joinBytes_eq_ofNat (hi lo : Byte) : joinBytes hi lo = BitVec.ofNat 16 (hi.toNat * 256 + lo.toNat) := by
  rw [← joinBytes_toNat, BitVec.ofNat_toNat, BitVec.setWidth_eq]

/-- The sentinel 0xFFFF is the raw value 65535 (R180). -/
theorem temp16_eq_reading (v : HalfWord) : temp16 v = reading v := by
  simp only [temp16, reading, BitVec.toNat_eq, BitVec.reduceToNat]

theorem switchOf_eq_onOffByte (b : Byte) : switchOf b = onOffByte b := by
  simp [switchOf, onOffByte, BitVec.toNat_eq]

theorem softwareVersionOf_toNat (b : Byte) : (softwareVersionOf b).toNat = b.toNat % 128 := by
  simp [softwareVersionOf]

theorem floorLimitStateOf_toNat (b : Byte) : (floorLimitStateOf b).toNat = b.toNat / 128 := by
  have := b.isLt
  rw [floorLimitStateOf, BitVec.extractLsb'_toNat, Nat.shiftRight_eq_div_pow]
  omega

/-- An enum with names for the codes 0 and 1, by the number of its code (R181). -/
theorem coded_two_eq {α : Type} {b : Byte} {n₀ n₁ other : α} :
    Coded.mk b (if b = 0#8 then n₀ else if b = 1#8 then n₁ else other) =
      Coded.mk b (match b.toNat with | 0 => n₀ | 1 => n₁ | _ => other) := by
  simp only [BitVec.toNat_eq, BitVec.reduceToNat]
  match b.toNat with | 0 | 1 | _ + 2 => rfl

/-- An enum with names for the codes 0 to 4, by the number of its code (R181). -/
theorem coded_five_eq {α : Type} {b : Byte} {n₀ n₁ n₂ n₃ n₄ other : α} :
    Coded.mk b (if b = 0#8 then n₀ else if b = 1#8 then n₁ else if b = 2#8 then n₂ else if b = 3#8 then n₃
        else if b = 4#8 then n₄ else other) =
      Coded.mk b (match b.toNat with | 0 => n₀ | 1 => n₁ | 2 => n₂ | 3 => n₃ | 4 => n₄ | _ => other) := by
  simp only [BitVec.toNat_eq, BitVec.reduceToNat]
  match b.toNat with | 0 | 1 | 2 | 3 | 4 | _ + 5 => rfl

/-! The layouts and the offset ROM (R174 to R178). -/

theorem layoutOf_eq (b : Byte) :
    layoutOf b = match b.toNat with | 2 => .prt | 3 => .prt | 4 => .prthw | _ => .dt := by
  simp only [layoutOf, BitVec.toNat_eq, BitVec.reduceToNat]
  match b.toNat with | 0 | 1 | 2 | 3 | 4 | _ + 5 => rfl

@[simp] theorem maxIndex_dt : maxIndex .dt = 44 := by decide

@[simp] theorem maxIndex_prt : maxIndex .prt = 48 := by decide

@[simp] theorem maxIndex_prthw : maxIndex .prthw = 49 := by decide

/-- Every layout has the rows of DT, at the same offsets (R175, R176). -/
theorem offset_of_dt {f : Field} {d : Nat} (row : offset f .dt = some d) (lay : Layout) : offset f lay = some d := by
  cases f with
  | hotWaterOn | weekday | hour | minute | second => cases row
  | _ => exact row

/-- No layout's MaxIndex is below that of DT. -/
theorem le_maxIndex (lay : Layout) : 44 ≤ maxIndex lay := by
  cases lay <;> simp

theorem mem_romFields (f : Field) : f ∈ romFields := by
  cases f <;> decide

/-- MaxIndex bounds what each field of the layout reads (R178). -/
theorem lastIndexOf_le_maxIndex (f : Field) (lay : Layout) : lastIndexOf lay f ≤ maxIndex lay := by
  rw [maxIndex, List.foldl_eq_foldr]
  exact List.le_max_of_le' 0 (List.mem_map_of_mem (mem_romFields f)) le_rfl

/-- The layout of a reply, by its model byte at DCB 4 (R174, R175). -/
def replyLayout (raw : List Byte) : Layout := layoutOf (dcb raw 4)

theorem modelByte_eq (raw : List Byte) : modelByte raw = (dcb raw 4).toNat := rfl

/-- The needed length is the layout's last index and the trailer beyond it (R178). -/
theorem neededLength_eq (raw : List Byte) : neededLength (modelByte raw) = maxIndex (replyLayout raw) + 3 := by
  rw [replyLayout, layoutOf_eq, modelByte_eq]
  match (dcb raw 4).toNat with | 0 | 1 | 2 | 3 | 4 | _ + 5 => simp [neededLength]

/-! Reads of a layout whose MaxIndex is in range (R170, R177). -/

section Reads

variable {raw : List Byte} {n : Nat} {lay : Layout} {f : Field} {d : Nat}

theorem frameIndex_eq (row : offset f lay = some d) : frameIndex lay f = .ok (9 + d) := by
  rw [frameIndex, row, dcbBase]

/-- What a field of the layout reads lies within MaxIndex. -/
theorem offset_le_maxIndex (row : offset f lay = some d) : 9 + d + fieldWidth f - 1 ≤ maxIndex lay := by
  simpa [lastIndexOf, row, dcbBase] using lastIndexOf_le_maxIndex f lay

/-- A one-byte field reads the byte at its DCB index. -/
theorem readField_eq (inside : maxIndex lay < parseLimit n raw.length) (row : offset f lay = some d)
    (one : fieldWidth f = 1) : readField raw n lay f = .ok (dcb raw d) := by
  have last := offset_le_maxIndex row
  rw [readField, frameIndex_eq row]
  exact readByte_inRange (by omega)

/-- A two-byte field reads the big-endian pair at its DCB index. -/
theorem readPair_eq (inside : maxIndex lay < parseLimit n raw.length) (row : offset f lay = some d)
    (two : fieldWidth f = 2) : readPair raw n lay f = .ok (dcbPair raw d) := by
  have last := offset_le_maxIndex row
  have hi : readByte raw n (9 + d) = .ok (dcb raw d) := readByte_inRange (by omega)
  have lo : readByte raw n (9 + d + 1) = .ok (dcb raw (d + 1)) := readByte_inRange (by omega)
  rw [dcbPair, ← joinBytes_eq_ofNat]
  simp only [readPair, frameIndex_eq row, bind, Except.bind, hi, lo]
  rfl

/-- The clock echo is four bytes in a row. -/
theorem readClock_eq (inside : maxIndex lay < parseLimit n raw.length) (weekday : offset .weekday lay = some d)
    (hour : offset .hour lay = some (d + 1)) (minute : offset .minute lay = some (d + 2))
    (second : offset .second lay = some (d + 3)) : readClock raw n lay = .ok (clockAt raw d) := by
  simp only [readClock, readField_eq inside weekday rfl, readField_eq inside hour rfl, readField_eq inside minute rfl,
    readField_eq inside second rfl]
  rfl

end Reads

/-! What a parse answers (R160). -/

/-- The tail that a layout reads (R175, R176 rows 28 to 32). -/
def tailAt (raw : List Byte) : Layout → Tail
  | .dt => .dt
  | .prt => .prt (clockAt raw 36)
  | .prthw => .prthw (switchOf (dcb raw 36)) (clockAt raw 37)

theorem tailAt_replyLayout (raw : List Byte) : tailAt raw (replyLayout raw) = tailOf raw := by
  rw [replyLayout, layoutOf_eq, tailOf, modelByte_eq, ← switchOf_eq_onOffByte]
  match (dcb raw 4).toNat with | 0 | 1 | 2 | 3 | 4 | _ + 5 => rfl

theorem readTail_eq {raw : List Byte} {n : Nat} {lay : Layout} (inside : maxIndex lay < parseLimit n raw.length) :
    readTail raw n lay = .ok (tailAt raw lay) := by
  cases lay with
  | dt => rfl
  | prt =>
    rw [readTail, readClock_eq inside rfl rfl rfl rfl]
    rfl
  | prthw =>
    rw [readTail, readField_eq inside rfl rfl, readClock_eq inside rfl rfl rfl rfl]
    rfl

/-- The declared length of a reply as the parser reads it (R171). -/
def declaredOf (raw : List Byte) : HalfWord := declaredLength (raw.getD 1 0#8) (raw.getD 2 0#8)

theorem declaredOf_toNat (raw : List Byte) : (declaredOf raw).toNat = frameLength raw := by
  rw [declaredOf, declaredLength, joinBytes_toNat, frameLength]
  omega

/-- LIMIT of a reply (R170). -/
def replyLimit (raw : List Byte) : Nat := parseLimit (declaredOf raw).toNat raw.length

theorem lt_replyLimit_iff {raw : List Byte} {i : Nat} :
    i < replyLimit raw ↔ i + 3 ≤ min (frameLength raw) raw.length := by
  rw [replyLimit, parseLimit, declaredOf_toNat]
  omega

/-- The record of a reply with its layout's fields in range, in the order of R190. -/
def recordOf (raw : List Byte) : DeviceInfoRecord where
  frameLength := declaredOf raw
  address := raw.getD 3 0#8
  dcbLength := dcbPair raw 0
  vendor := vendorOf (dcb raw 2)
  softwareVersion := softwareVersionOf (dcb raw 3)
  floorLimitState := floorLimitStateOf (dcb raw 3)
  modelID := modelOf (dcb raw 4)
  temperatureFormat := tempFormatOf (dcb raw 5)
  switchDifferential := dcb raw 6
  frostProtection := frostOf (dcb raw 7)
  calibrationOffset := dcbPair raw 8
  outputDelay := dcb raw 10
  upDownKeyLimit := dcb raw 12
  sensorSelection := sensorOf (dcb raw 13)
  optimumStart := dcb raw 14
  rateOfChange := dcb raw 15
  programMode := programModeOf (dcb raw 16)
  frostProtectTemp := dcb raw 17
  setRoomTemp := dcb raw 18
  floorMaxLimit := dcb raw 19
  floorMaxLimitEnable := switchOf (dcb raw 20)
  onOff := switchOf (dcb raw 21)
  keyLock := switchOf (dcb raw 22)
  runMode := runModeOf (dcb raw 23)
  holidayHours := dcbPair raw 24
  tempHoldMinutes := dcbPair raw 26
  remoteAirTemp := temp16 (dcbPair raw 28)
  floorTemp := temp16 (dcbPair raw 30)
  airTemp := temp16 (dcbPair raw 32)
  heatingOn := switchOf (dcb raw 35)
  tail := tailAt raw (replyLayout raw)

/-- With its layout in range, every read of a record succeeds: the rows of the offset ROM, then the tail (R176). -/
theorem readRecord_eq {raw : List Byte} (inside : maxIndex (replyLayout raw) < replyLimit raw) :
    readRecord raw (declaredOf raw) (raw.getD 3 0#8) (replyLayout raw) = .ok (recordOf raw) := by
  have byte (f : Field) (row : (offset f .dt).isSome) (one : fieldWidth f = 1) :
      readField raw (declaredOf raw).toNat (replyLayout raw) f = .ok (dcb raw ((offset f .dt).getD 0)) := by
    obtain ⟨d, row⟩ := Option.isSome_iff_exists.1 row
    rw [readField_eq inside (offset_of_dt row _) one, row, Option.getD_some]
  have pair (f : Field) (row : (offset f .dt).isSome) (two : fieldWidth f = 2) :
      readPair raw (declaredOf raw).toNat (replyLayout raw) f = .ok (dcbPair raw ((offset f .dt).getD 0)) := by
    obtain ⟨d, row⟩ := Option.isSome_iff_exists.1 row
    rw [readPair_eq inside (offset_of_dt row _) two, row, Option.getD_some]
  simp (disch := decide) only [readRecord, byte, pair, readTail_eq inside]
  rfl

theorem parseStatusBlock_of_short {raw : List Byte} (short : raw.length < 6) :
    parseStatusBlock raw = .error .header := by
  match raw with
  | [] | [_] | [_, _] | [_, _, _] | [_, _, _, _] | [_, _, _, _, _] => rfl
  | _ :: _ :: _ :: _ :: _ :: _ :: _ =>
    simp only [List.length_cons] at short
    omega

theorem parseStatusBlock_of_six_le {raw : List Byte} (six : 6 ≤ raw.length) :
    parseStatusBlock raw = (do
      let model ← readByte raw (declaredOf raw).toNat 13
      if inRange (declaredOf raw).toNat raw.length (maxIndex (layoutOf model)) then
        readRecord raw (declaredOf raw) (raw.getD 3 0#8) (layoutOf model)
      else .error .tail) := by
  match raw with
  | _ :: _ :: _ :: _ :: _ :: _ :: _ => rfl

/-- The whole parse: a record or an error is picked by the lengths and the layout alone (R173, R174, R178). -/
theorem parseStatusBlock_eq (raw : List Byte) :
    parseStatusBlock raw =
      if raw.length < 6 then .error .header
      else if 13 < replyLimit raw then
        if maxIndex (replyLayout raw) < replyLimit raw then .ok (recordOf raw) else .error .tail
      else .error (.index 13) := by
  split_ifs with short model inside
  · exact parseStatusBlock_of_short short
  · rw [parseStatusBlock_of_six_le (by omega), readByte_inRange model, ← readRecord_eq inside]
    exact if_pos (decide_eq_true inside)
  · rw [parseStatusBlock_of_six_le (by omega), readByte_inRange model]
    exact if_neg (mt of_decide_eq_true inside)
  · rw [parseStatusBlock_of_six_le (by omega), readByte_outOfRange model]
    rfl

theorem parseStatusBlock_eq_ok_iff {raw : List Byte} {r : DeviceInfoRecord} :
    parseStatusBlock raw = .ok r ↔ maxIndex (replyLayout raw) < replyLimit raw ∧ recordOf raw = r := by
  have least := le_maxIndex (replyLayout raw)
  rw [parseStatusBlock_eq]
  by_cases inside : maxIndex (replyLayout raw) < replyLimit raw
  · have six := lt_replyLimit_iff.1 inside
    simp [inside, show ¬ raw.length < 6 by omega, show 13 < replyLimit raw by omega]
  · split_ifs <;> simp [inside]

/-! The bytes a parse reads (R185). -/

/-- Two replies agree on the bytes that the parser reads of the first: reply offsets 1 to 3, and the fields of its
layout, of which DCB 11 and 34 are none. -/
structure SameReads (raw raw' : List Byte) : Prop where
  header : ∀ i, 1 ≤ i → i ≤ 3 → raw.getD i 0#8 = raw'.getD i 0#8
  fields : ∀ d, d ≠ 11 → d ≠ 34 → 9 + d ≤ maxIndex (replyLayout raw) → dcb raw d = dcb raw' d

namespace SameReads

variable {raw raw' : List Byte}

theorem replyLayout_eq (h : SameReads raw raw') : replyLayout raw = replyLayout raw' := by
  have least := le_maxIndex (replyLayout raw)
  rw [replyLayout, replyLayout, h.fields 4 (by decide) (by decide) (by omega)]

theorem declaredOf_eq (h : SameReads raw raw') : declaredOf raw = declaredOf raw' := by
  rw [declaredOf, declaredOf, h.header 1 (by decide) (by decide), h.header 2 (by decide) (by decide)]

theorem tailAt_eq (h : SameReads raw raw') : tailAt raw (replyLayout raw) = tailAt raw' (replyLayout raw') := by
  have fields := h.fields
  rw [← h.replyLayout_eq]
  cases lay : replyLayout raw with
  | dt => rfl
  | prt =>
    rw [lay, maxIndex_prt] at fields
    simp (disch := decide) only [tailAt, clockAt, Nat.reduceAdd, fields]
  | prthw =>
    rw [lay, maxIndex_prthw] at fields
    simp (disch := decide) only [tailAt, clockAt, Nat.reduceAdd, fields]

theorem recordOf_eq (h : SameReads raw raw') : recordOf raw = recordOf raw' := by
  have least := le_maxIndex (replyLayout raw)
  have common (d : Nat) (h35 : d ≤ 35) (h11 : d ≠ 11) (h34 : d ≠ 34) : dcb raw d = dcb raw' d :=
    h.fields d h11 h34 (by omega)
  simp (disch := decide) only [recordOf, dcbPair, Nat.reduceAdd, common, h.declaredOf_eq, h.header 3, h.tailAt_eq]

end SameReads

end Sys2Proof.Machine

namespace Sys2Proof

open Machine

/-- Settles O51: the sentinel is the raw value 65535, and a 16-bit value is at most that. -/
theorem temperatureReading : Obligations.TemperatureReading := by
  intro v
  have below := v.isLt
  rw [temp16_eq_reading, Claim.reading]
  refine ⟨fun absent => if_pos absent, fun present => ⟨if_neg present, ?_⟩⟩
  omega

/-- Settles O48: beside MaxIndex, only the lengths decide whether there is a record. -/
theorem parseSucceedsFromTheNeededLength : Obligations.ParseSucceedsFromTheNeededLength := by
  refine ⟨⟨maxIndex_dt, maxIndex_prt, maxIndex_prthw⟩, fun raw => ?_⟩
  rw [neededLength_eq, ← lt_replyLimit_iff]
  simp [parseStatusBlock_eq_ok_iff]

/-- Settles O49: the record is `recordOf`, each field of which is its DCB bytes decoded by its kind. -/
theorem parsedFieldsComeFromTheRom : Obligations.ParsedFieldsComeFromTheRom := by
  intro raw r parsed
  obtain ⟨-, rfl⟩ := parseStatusBlock_eq_ok_iff.1 parsed
  exact ⟨declaredOf_toNat raw, rfl, rfl, coded_two_eq, softwareVersionOf_toNat _, floorLimitStateOf_toNat _,
    coded_five_eq, coded_two_eq, rfl, coded_two_eq, rfl, rfl, rfl, coded_five_eq, rfl, rfl, coded_two_eq, rfl, rfl, rfl,
    switchOf_eq_onOffByte _, switchOf_eq_onOffByte _, switchOf_eq_onOffByte _, coded_two_eq, rfl, rfl,
    temp16_eq_reading _, temp16_eq_reading _, temp16_eq_reading _, switchOf_eq_onOffByte _, tailAt_replyLayout raw⟩

/-- Settles O50: the parse depends on the length and the bytes that the parser reads, and on no more. -/
theorem unreadBytesDoNotMatter : Obligations.UnreadBytesDoNotMatter := by
  intro raw raw' length agree
  have least := le_maxIndex (replyLayout raw)
  have byte (i : Nat) (h0 : i ≠ 0) (h48 : ¬ (4 ≤ i ∧ i ≤ 8)) (h11 : i ≠ 9 + 11) (h34 : i ≠ 9 + 34)
      (last : i ≤ maxIndex (replyLayout raw)) : raw.getD i 0#8 = raw'.getD i 0#8 := by
    rw [List.getD_eq_getElem?_getD, agree i h0 h48 h11 h34 last, List.getD_eq_getElem?_getD]
  have same : SameReads raw raw' :=
    { header := fun i _ _ => byte i (by omega) (by omega) (by omega) (by omega) (by omega)
      fields := fun d _ _ last => byte (9 + d) (by omega) (by omega) (by omega) (by omega) last }
  rw [parseStatusBlock_eq, parseStatusBlock_eq, replyLimit, replyLimit, length, same.declaredOf_eq, same.replyLayout_eq,
    same.recordOf_eq]

end Sys2Proof

/-! The dispatcher (43_dispatcher.md): the checks of the operands, and the EXEC and EVAL half of every job kind. -/

namespace Sys2Proof.Machine

open Claim

/-! The operands: the addresses a kind may name, and the range of SET_TEMP (R201, R217). -/

theorem deviceAddress_iff (a : Byte) : deviceAddress a = true ↔ 1 ≤ a.toNat ∧ a.toNat ≤ 31 := by
  simp [deviceAddress]

theorem not_deviceAddress_iff (a : Byte) : ¬ deviceAddress a = true ↔ a.toNat = 0 ∨ 32 ≤ a.toNat := by
  rw [deviceAddress_iff]
  omega

/-- The broadcast address 0xFF is legal for a PROBE alone. -/
theorem probeAddress_iff (a : Byte) : probeAddress a = true ↔ (1 ≤ a.toNat ∧ a.toNat ≤ 31) ∨ a.toNat = 255 := by
  simp [probeAddress, deviceAddress_iff, BitVec.toNat_eq]

theorem not_probeAddress_iff (a : Byte) :
    ¬ probeAddress a = true ↔ a.toNat = 0 ∨ (32 ≤ a.toNat ∧ a.toNat ≤ 254) := by
  have byte := a.isLt
  rw [probeAddress_iff]
  omega

theorem inTempRange_celsius_iff (v : Byte) : inTempRange v .celsius = true ↔ 5 ≤ v.toNat ∧ v.toNat ≤ 35 := by
  simp [inTempRange]

theorem inTempRange_fahrenheit_iff (v : Byte) : inTempRange v .fahrenheit = true ↔ 41 ≤ v.toNat ∧ v.toNat ≤ 95 := by
  simp [inTempRange]

/-- The adjusted second of any byte still fits a byte, so AdjustSecond is its arithmetic on integers (R213). -/
theorem adjustSecond_toNat (wrap : ClockWrap) (s : Byte) :
    (adjustSecond wrap s).toNat = if 57 < s.toNat then s.toNat + 2 - wrapAmount wrap else s.toNat + 2 := by
  have byte := s.isLt
  have wrapped : 59 ≤ wrapAmount wrap := by cases wrap <;> decide
  simp only [adjustSecond, BitVec.toNat_ofNat]
  split_ifs <;> omega

/-! How a job ends: the report, the retry by the table of R251, and SWEEP (60_exceptions.md R275). -/

theorem record_eq_recordOf (r : JobResult) : r.record = Claim.recordOf r := by
  cases r <;> rfl

/-- The report of a lost job has the fields that R234 lists. -/
theorem overflowReport_eq_lostReport (w : JobWord) : overflowReport w = lostReport w := rfl

/-- The outcome report has the fields that R106 lists. -/
theorem jobReport_eq_reportOf (k : JobKind) (w : JobWord) (r : JobResult) (requeued : Bool) :
    jobReport k w r requeued = reportOf k w r requeued := by
  simp only [jobReport, reportOf, presentBit, outcome_eq_outcomeOf, causeCode_eq_causeOf, record_eq_recordOf,
    Bool.decide_and, Bool.decide_or]

/-- The end of a job, field by field: not retried, retried with room, or retried and lost (44_sequencer.md R244, R251). -/
theorem State.endJob_eq_endedState (s : State) (k : JobKind) (w : JobWord) (r : JobResult) :
    s.endJob Config.ofBlock k w r = endedState s k w r := by
  have ended (t : State) : (t.withCurJob none).withSeq .sweep = { t with curJob := none, seqState := .sweep } := rfl
  rw [State.endJob, endedState, ← retry_eq_shouldRetry, jobReport_eq_reportOf, ended]
  cases again : retry Config.ofBlock k r with
  | false => simp [State.retryJob, State.requeues, again, State.addReport]
  | true =>
    have retried (t : State) : t.retryJob Config.ofBlock k w r = t.enqueue Config.ofBlock w := if_pos again
    by_cases room : s.q.length < Config.ofBlock.queueDepth
    · simp [retried, State.requeues, State.enqueue, State.hasRoom, again, room, State.addReport, State.pushJob,
        State.withQueue]
    · simp [retried, State.requeues, State.enqueue, State.hasRoom, again, room, State.addReport, State.withOverflow,
        overflowReport_eq_lostReport]

/-! The two halves of a job, for every kind (44_sequencer.md R236, R237, R244). -/

section Halves
variable {s : State} {i : Instr} {k : JobKind} {w : JobWord}

/-- EXEC with a frame: the request goes to SEND. -/
theorem exec_of_frame (hk : i.jobKind = some k) (job : s.curJob = some w) (hs : s.seqState = .exec) {c : EvalClass}
    {d : Byte} {a e : HalfWord} {p : Option (List Byte)}
    (built : prepareOf i Config.ofBlock s = .frame (s.loadRequest Config.ofBlock c d a e p)) :
    exec i s = .next (requestState s (requestBody d a e p) (limitOf Config.ofBlock c)) :=
  (exec_job_next hk s _).2 ⟨w, job, .inl ⟨hs, by rw [built]; rfl⟩⟩

/-- EXEC with an early outcome: the job ends with it, and no buffer is written. -/
theorem exec_of_early (hk : i.jobKind = some k) (job : s.curJob = some w) (hs : s.seqState = .exec) {r : JobResult}
    (early : prepareOf i Config.ofBlock s = .early r) : exec i s = .next (endedState s k w r) :=
  (exec_job_next hk s _).2 ⟨w, job, .inl ⟨hs, by rw [early, ← State.endJob_eq_endedState]; rfl⟩⟩

/-- EVAL: the job ends with the judgement of its class. -/
theorem exec_of_eval (hk : i.jobKind = some k) (job : s.curJob = some w) (hs : s.seqState = .eval) :
    exec i s = .next (endedState { s with crc := crcAfterJudge (evalClass k) s.crc s.rxBuf } k w
      (judge (evalClass k) s.rxBuf)) :=
  (exec_job_next hk s _).2 ⟨w, job, .inr ⟨hs, by rw [← State.endJob_eq_endedState]; rfl⟩⟩

/-- EVAL of a status read (R204, R206). -/
theorem exec_of_eval_status (hk : i.jobKind = some k) (status : evalClass k = .status) (job : s.curJob = some w)
    (hs : s.seqState = .eval) :
    exec i s =
      .next (endedState { s with crc := crcAfterStatus s.crc s.rxBuf } k w (evalStatus s.rxBuf)) := by
  rw [exec_of_eval hk job hs, status, crcAfterJudge_status]
  rfl

/-- EVAL of a write (R222). -/
theorem exec_of_eval_ack (hk : i.jobKind = some k) (ack : evalClass k = .ack) (job : s.curJob = some w)
    (hs : s.seqState = .eval) :
    exec i s = .next (endedState { s with crc := crcAfterAck s.crc s.rxBuf } k w (checkAck s.rxBuf)) := by
  rw [exec_of_eval hk job hs, ack, crcAfterJudge_ack]
  rfl

end Halves

/-! The frame of the job in flight (R220, R221). -/

/-- FUNC of a class's request: a status read sends READ, a write WRITE (30_encoding.md R91). -/
def funcOfClass : EvalClass → FrameFunc
  | .status => .read
  | .ack => .write

theorem frameFuncOf_eq_read_iff (b : Byte) : frameFuncOf b = some .read ↔ b = 0x00#8 := by
  unfold frameFuncOf
  split_ifs with read <;> simp [read]

theorem frameFuncOf_eq_write_iff (b : Byte) : frameFuncOf b = some .write ↔ b = 0x01#8 := by
  unfold frameFuncOf
  split_ifs with read write <;> simp [*]

/-- The payload bytes of a kind's request (30_encoding.md R93). -/
def payloadLengthOf : JobKind → Nat
  | .poll => 0
  | .probe => 0
  | .syncClock => 4
  | .setTemp => 1
  | .setHotWater => 1

theorem payloadLengthOf_of_status {k : JobKind} (h : evalClass k = .status) : payloadLengthOf k = 0 := by
  cases k with
  | poll | probe => rfl
  | syncClock | setTemp | setHotWater => cases h

/-- The fields that serve a job have the FUNC of its class and the payload length of its kind (30_encoding.md R103). -/
theorem requestServes_shape {i : Instr} {k : JobKind} (hk : i.jobKind = some k) {f : RequestFrame}
    (h : requestServes i f = true) : f.func = funcOfClass (evalClass k) ∧ f.payload.length = payloadLengthOf k := by
  cases i with
  | poll a | probe a | setTemp a v u | setHotWater a on =>
    cases hk
    obtain rfl := eq_of_beq h
    exact ⟨rfl, rfl⟩
  | syncClock a =>
    cases hk
    simp only [requestServes, Bool.and_eq_true, beq_iff_eq] at h
    obtain ⟨four, fields⟩ := h
    exact ⟨by rw [fields]; rfl, four⟩
  | read | write => cases hk

/-- So a frame that serves a job has FUNC of its class in byte 3 and the length of its kind. -/
theorem frameServes_shape {i : Instr} {k : JobKind} (hk : i.jobKind = some k) {frame : List Byte}
    (h : frameServes i frame = true) :
    ∃ b, frame[3]? = some b ∧ frameFuncOf b = some (funcOfClass (evalClass k)) ∧
      frame.length = 10 + payloadLengthOf k := by
  unfold frameServes at h
  cases hd : decodeRequest frame with
  | none => simp [hd] at h
  | some f =>
    simp only [hd, Bool.and_eq_true] at h
    obtain ⟨func, payload⟩ := requestServes_shape hk h.2
    obtain ⟨b, at3, hb, len⟩ := decodeRequest_func hd
    exact ⟨b, at3, func ▸ hb, payload ▸ len⟩

end Sys2Proof.Machine

namespace Sys2Proof

open Machine

/-- Settles O28: an address of R201 builds the READ frame, another is the early outcome, and the class judges the reply. -/
theorem pollHalves : Obligations.PollHalves := by
  refine fun s a w job => ⟨fun hs low high => ?_, fun hs illegal => ?_, exec_of_eval_status (i := .poll a) rfl rfl job⟩
  · have built : preparePoll a Config.ofBlock s = .frame (s.loadRead Config.ofBlock a) :=
      if_pos ((deviceAddress_iff a).2 ⟨low, high⟩)
    exact exec_of_frame (i := .poll a) rfl job hs built
  · exact exec_of_early (i := .poll a) rfl job hs (if_neg ((not_deviceAddress_iff a).2 illegal))

/-- Settles O29, as POLL with the addresses of a PROBE. -/
theorem probeHalves : Obligations.ProbeHalves := by
  refine fun s a w job => ⟨fun hs legal => ?_, fun hs illegal => ?_, exec_of_eval_status (i := .probe a) rfl rfl job⟩
  · have built : prepareProbe a Config.ofBlock s = .frame (s.loadRead Config.ofBlock a) :=
      if_pos ((probeAddress_iff a).2 legal)
    exact exec_of_frame (i := .probe a) rfl job hs built
  · exact exec_of_early (i := .probe a) rfl job hs (if_neg ((not_probeAddress_iff a).2 illegal))

/-- Settles O30: the payload samples WALLCLOCK, and the class judges the acknowledgement. -/
theorem syncClockHalves : Obligations.SyncClockHalves := by
  refine fun s a w job =>
    ⟨fun hs low high => ?_, fun hs illegal => ?_, exec_of_eval_ack (i := .syncClock a) rfl rfl job⟩
  · have built : prepareSyncClock a Config.ofBlock s =
        .frame (s.loadRequest Config.ofBlock .ack a 43#16 4#16
          (some (clockPayload Config.ofBlock.clockWrap s.host.wallclock))) :=
      if_pos ((deviceAddress_iff a).2 ⟨low, high⟩)
    exact exec_of_frame (i := .syncClock a) rfl job hs built
  · exact exec_of_early (i := .syncClock a) rfl job hs (if_neg ((not_deviceAddress_iff a).2 illegal))

/-- Settles O31: the address is checked first, so it decides between the two early outcomes. -/
theorem setTempHalves : Obligations.SetTempHalves := by
  refine fun s a v u w job =>
    ⟨fun hs low high range => ?_, fun hs low high outside => ?_, fun hs illegal => ?_,
      exec_of_eval_ack (i := .setTemp a v u) rfl rfl job⟩
  · have inside : inTempRange v u = true := by
      cases u with
      | celsius => exact (inTempRange_celsius_iff v).2 range
      | fahrenheit => exact (inTempRange_fahrenheit_iff v).2 range
    have built : prepareSetTemp a v u Config.ofBlock s =
        .frame (s.loadRequest Config.ofBlock .ack a 18#16 1#16 (some (tempPayload v))) :=
      (if_pos ((deviceAddress_iff a).2 ⟨low, high⟩)).trans (if_pos inside)
    exact exec_of_frame (i := .setTemp a v u) rfl job hs built
  · have refused : ¬ inTempRange v u = true := by
      cases u with
      | celsius =>
        rw [inTempRange_celsius_iff]
        omega
      | fahrenheit =>
        rw [inTempRange_fahrenheit_iff]
        omega
    have early : prepareSetTemp a v u Config.ofBlock s = .early .outOfRange :=
      (if_pos ((deviceAddress_iff a).2 ⟨low, high⟩)).trans (if_neg refused)
    exact exec_of_early (i := .setTemp a v u) rfl job hs early
  · exact exec_of_early (i := .setTemp a v u) rfl job hs (if_neg ((not_deviceAddress_iff a).2 illegal))

/-- Settles O32: both values of ON give one payload byte. -/
theorem setHotWaterHalves : Obligations.SetHotWaterHalves := by
  refine fun s a on w job =>
    ⟨fun hs low high => ?_, fun hs illegal => ?_, exec_of_eval_ack (i := .setHotWater a on) rfl rfl job⟩
  · have built : prepareSetHotWater a on Config.ofBlock s =
        .frame (s.loadRequest Config.ofBlock .ack a 42#16 1#16 (some (hotWaterPayload on))) :=
      if_pos ((deviceAddress_iff a).2 ⟨low, high⟩)
    exact exec_of_frame (i := .setHotWater a on) rfl job hs built
  · exact exec_of_early (i := .setHotWater a on) rfl job hs (if_neg ((not_deviceAddress_iff a).2 illegal))

/-- Settles O35: in SEND the invariant has the job's own request in TX_BUF, and that has FUNC and length of its kind. -/
theorem functionByteMatchesTheJob : Obligations.FunctionByteMatchesTheJob := by
  intro s w i k inv hs job decoded hk
  have serves : frameServes i s.txBuf = true := inv.requestInFlight (by rw [hs]; rfl) w i job decoded
  obtain ⟨b, at3, func, length⟩ := frameServes_shape hk serves
  refine ⟨fun status => ?_, fun ack => ?_, ?_, ?_⟩
  · rw [status] at func
    obtain rfl := (frameFuncOf_eq_read_iff b).1 func
    exact ⟨at3, by rw [State.txLen_eq, length, payloadLengthOf_of_status status]⟩
  · rw [ack] at func
    obtain rfl := (frameFuncOf_eq_write_iff b).1 func
    exact at3
  · rintro (rfl | rfl) <;> exact length
  · rintro rfl
    exact length

/-- Settles O38: evalStatus asks decodeReply, and the parser for a valid reply. -/
theorem statusReplyJudgement : Obligations.StatusReplyJudgement := by
  refine fun raw =>
    ⟨fun none => ?_, fun short => ?_, fun bad => ?_, fun valid => ⟨fun e failed => ?_, fun r parsed => ?_⟩⟩
  · rw [evalStatus, none]
  · rw [evalStatus, short]
  · rw [evalStatus, bad]
  · rw [evalStatus, valid]
    simp only [failed]
  · rw [evalStatus, valid]
    simp only [parsed]

/-- Settles O46: the adjustment is the one on integers, and the payload copies the other three fields. -/
theorem secondAdjustment : Obligations.SecondAdjustment := by
  refine ⟨fun s => ?_, fun _ _ => rfl⟩
  have byte := s.isLt
  simp only [adjustSecond_toNat, wrapAmount]
  refine ⟨fun low => ?_, fun high => ?_, ?_, ?_⟩
  all_goals split_ifs <;> omega

/-- Settles O47, one unit at a time. -/
theorem temperatureRange : Obligations.TemperatureRange :=
  fun v => ⟨inTempRange_celsius_iff v, inTempRange_fahrenheit_iff v⟩

end Sys2Proof

/-! The sequencer (44_sequencer.md): the step of each SEQ_STATE, what its steps may move, and a transaction from SEND to
IDLE. -/

namespace Sys2Proof.Machine

open Claim

/-! The BLOCK's step in each SEQ_STATE (R230). -/

/-- With the BLOCK's turn, a step is the BLOCK's on the state with the action taken off the schedule. -/
theorem step_of_block {s : State} (h : s.nextAction = .block) : step s = blockStep s.popAction := by
  rw [step_eq, h]
  rfl

/-- The BLOCK runs the instruction of the code it fetches. -/
theorem blockStep_of_code {s : State} {c : Code} {i : Instr} (fetched : s.fetch = .code c) (hi : decode c = .ok i) :
    blockStep s = exec i s := by
  rw [blockStep, fetched]
  simp only [hi]

theorem State.fetch_job {s : State} {w : JobWord} (hs : s.seqState = .exec ∨ s.seqState = .eval)
    (job : s.curJob = some w) : s.fetch = .code (.job w) := by
  rcases hs with hs | hs <;> simp [State.fetch, hs, job]

theorem State.fetch_func {s : State} {b : Byte} (hs : s.seqState = .send) (at3 : s.txBuf[3]? = some b) :
    s.fetch = .code (.func b) := by
  simp [State.fetch, hs, funcIndex, at3]

/-- With the BLOCK's turn and no code to fetch, a step is one that runs no instruction. -/
theorem step_of_nothing {s : State} (block : s.nextAction = .block) (fetched : s.popAction.fetch = .nothing) :
    step s = .next (s.popAction.quietStep Config.ofBlock) := by
  rw [step_of_block block, blockStep, fetched]

theorem step_of_idle {s : State} (block : s.nextAction = .block) (hs : s.seqState = .idle) :
    step s = .next s.popAction.idleStep := by
  rw [step_of_nothing block (by simp [State.fetch, hs])]
  simp [State.quietStep, hs]

theorem step_of_sweep {s : State} (block : s.nextAction = .block) (hs : s.seqState = .sweep) :
    step s = .next (s.popAction.sweepStep Config.ofBlock) := by
  rw [step_of_nothing block (by simp [State.fetch, hs])]
  simp [State.quietStep, hs]

/-- In RECEIVE and STOPPED the BLOCK waits (log 2). -/
theorem step_of_waiting {s : State} (block : s.nextAction = .block) (hs : s.seqState = .receive ∨ s.seqState = .stopped) :
    step s = .next s.popAction := by
  rcases hs with hs | hs
  all_goals
    rw [step_of_nothing block (by simp [State.fetch, hs])]
    simp [State.quietStep, hs]

/-! The IDLE step by its flags (R232, R256). -/

section IdleStep
variable {s : State} (noShutdown : s.shutdownReq = false)
include noShutdown

theorem State.idleStep_of_quiet (noTick : s.tickPending = false) : s.idleStep = s := by
  simp [State.idleStep, noShutdown, noTick]

theorem State.idleStep_of_job (tick : s.tickPending = true) {w : JobWord} {rest : List JobWord} (hq : s.q = w :: rest) :
    s.idleStep = (((s.withTick false).withQueue rest).withCurJob (some w)).withSeq .exec := by
  simp [State.idleStep, noShutdown, tick, hq]

theorem State.idleStep_of_empty (tick : s.tickPending = true) (hq : s.q = []) :
    s.idleStep = (s.withTick false).withSeq .sweep := by
  simp [State.idleStep, noShutdown, tick, hq]

end IdleStep

/-! The CHANNEL's step (R241 to R243). -/

/-- Outside RECEIVE a byte is discarded (R241). -/
theorem State.rxByte_discarded {s : State} (hs : s.seqState ≠ .receive) (cfg : Config) (b : Byte) :
    s.rxByte cfg b = .next s := if_neg hs

/-- RX_BUF has a place for every byte that comes in RECEIVE: the count is below RX_LIMIT, and that fits RX_BUF (R242). -/
theorem Inv.step_of_rxByte {s : State} {b : Byte} {rest : List Action} (h : Inv s) (hs : s.seqState = .receive)
    (hsched : s.schedule = .rxByte b :: rest) : Machine.step s = .next ({ s with schedule := rest }.storeByte b) :=
  (step_of_schedule hsched).trans ((if_pos hs).trans (if_pos ((h.receiving hs).trans_le h.limitBound)))

theorem step_of_rxTimeout {s : State} {rest : List Action} (hs : s.seqState = .receive)
    (hsched : s.schedule = .rxTimeout :: rest) : step s = .next ({ s with schedule := rest }.withSeq .eval) :=
  (step_of_schedule hsched).trans (congrArg Host.Outcome.next (if_pos hs))

/-! Where an instruction has no half (log 9). -/

theorem runJob_outside {s : State} (exec : s.seqState ≠ .exec) (eval : s.seqState ≠ .eval) (cfg : Config) (k : JobKind)
    (prepare : Config → State → Prepared) : runJob cfg k prepare s = .fault .noHalfInThisState := by
  unfold runJob
  cases hs : s.seqState with
  | exec => exact absurd hs exec
  | eval => exact absurd hs eval
  | idle | send | receive | sweep | stopped => rfl

theorem runJob_noJob {s : State} (hs : s.seqState = .exec ∨ s.seqState = .eval) (noJob : s.curJob = none) (cfg : Config)
    (k : JobKind) (prepare : Config → State → Prepared) : runJob cfg k prepare s = .fault .curJobNoValue := by
  rcases hs with hs | hs <;> simp [runJob, hs, noJob]

theorem runFrame_outside {s : State} (send : s.seqState ≠ .send) : runFrame s = .fault .noHalfInThisState := by
  unfold runFrame
  cases hs : s.seqState with
  | send => exact absurd hs send
  | idle | exec | receive | eval | sweep | stopped => rfl

/-! The edges of SEQ_STATE (R230). -/

theorem deviceAddr_eq_deviceAddress (a : Byte) : deviceAddr a = deviceAddress a := Bool.decide_and _ _

/-- A job builds a frame exactly when its address and range are legal, whatever the state (43_dispatcher.md R201, R217). -/
theorem prepareOf_cases (i : Instr) (cfg : Config) (s : State) :
    (buildsFrame i = true ∧ ∃ t, prepareOf i cfg s = .frame t) ∨
      (buildsFrame i = false ∧ ∃ r, prepareOf i cfg s = .early r) := by
  cases i with
  | poll a =>
    rw [buildsFrame, deviceAddr_eq_deviceAddress]
    exact (preparePoll_cases a cfg s).imp (.imp_right fun h => ⟨_, h⟩) (.imp_right fun h => ⟨_, h⟩)
  | syncClock a =>
    rw [buildsFrame, deviceAddr_eq_deviceAddress]
    exact (prepareSyncClock_cases a cfg s).imp (.imp_right fun h => ⟨_, h⟩) (.imp_right fun h => ⟨_, h⟩)
  | setTemp a v u =>
    have legal : buildsFrame (.setTemp a v u) = (deviceAddress a && inTempRange v u) := by
      cases u <;> simp only [buildsFrame, deviceAddr_eq_deviceAddress, inTempRange, Bool.decide_and]
    rw [legal]
    rcases prepareSetTemp_cases a v u cfg s with ⟨ha, hv, hp⟩ | ⟨ha, hv, hp⟩ | ⟨ha, hp⟩
    · exact .inl ⟨by rw [ha, hv]; rfl, _, hp⟩
    · exact .inr ⟨by rw [ha, hv]; rfl, _, hp⟩
    · exact .inr ⟨by rw [ha]; rfl, _, hp⟩
  | setHotWater a on =>
    rw [buildsFrame, deviceAddr_eq_deviceAddress]
    exact (prepareSetHotWater_cases a on cfg s).imp (.imp_right fun h => ⟨_, h⟩) (.imp_right fun h => ⟨_, h⟩)
  | probe a =>
    have legal : buildsFrame (.probe a) = probeAddress a := by
      simp only [buildsFrame, deviceAddr_eq_deviceAddress, probeAddress, BitVec.toNat_eq, BitVec.toNat_ofNat]
    rw [legal]
    exact (prepareProbe_cases a cfg s).imp (.imp_right fun h => ⟨_, h⟩) (.imp_right fun h => ⟨_, h⟩)
  | read => exact .inr ⟨rfl, _, rfl⟩
  | write => exact .inr ⟨rfl, _, rfl⟩

/-- A BLOCK step takes an edge of its SEQ_STATE, or waits in IDLE, RECEIVE or STOPPED. -/
theorem blockStep_edge {s t : State} (h : blockStep s = .next t) :
    (t.seqState = s.seqState ∧ (s.seqState = .idle ∨ s.seqState = .receive ∨ s.seqState = .stopped)) ∨
      (t.seqState ≠ s.seqState ∧ Edge s .block t.seqState) := by
  rcases blockStep_cases h with ⟨hs, rfl⟩ | ⟨hs, w, i, k, hw, hi, -, rfl⟩ | ⟨hs, -, rfl⟩ | ⟨hs, rfl⟩ |
    ⟨hs, w, i, k, -, -, -, rfl⟩ | ⟨hs, rfl⟩ | ⟨hs, rfl⟩
  · rcases s.idleStep_cases with ⟨hr, he⟩ | ⟨hr, ht, w, rest, hq, he⟩ | ⟨hr, ht, hq, he⟩ | ⟨-, -, he⟩ <;> rw [he]
    · exact .inr (by simp [Edge, hs, hr])
    · exact .inr (by simp [Edge, hs, hr, ht, hq])
    · exact .inr (by simp [Edge, hs, hr, ht, hq])
    · exact .inl ⟨rfl, .inl hs⟩
  · rcases prepareOf_cases i Config.ofBlock s with ⟨legal, u, hp⟩ | ⟨illegal, r, hp⟩ <;> rw [hp]
    · exact .inr (by simpa [State.execHalf, Edge, hs] using ⟨w, hw, i, hi, legal⟩)
    · exact .inr (by simpa [State.execHalf, Edge, hs] using ⟨w, hw, i, hi, illegal⟩)
  · exact .inr (by simp [Edge, hs])
  · exact .inl ⟨rfl, .inr (.inl hs)⟩
  · exact .inr (by simp [State.evalHalf, Edge, hs])
  · exact .inr (by simp [Edge, hs])
  · exact .inl ⟨rfl, .inr (.inr hs)⟩

/-- A byte from the channel ends the reception when the count reaches RX_LIMIT, and moves SEQ_STATE at no other time. -/
theorem State.rxByte_edge {s t : State} {b : Byte} (h : s.rxByte Config.ofBlock b = .next t) :
    t.seqState = s.seqState ∨ Edge s (.rxByte b) t.seqState := by
  rcases State.rxByte_cases h with ⟨hs, -, rfl⟩ | ⟨-, rfl⟩
  · rcases s.storeByte_cases b with ⟨full, he⟩ | ⟨-, he⟩ <;> rw [he]
    · exact .inr (by simp [Edge, hs, full])
    · exact .inl rfl
  · exact .inl rfl

theorem State.rxTimeout_edge (s : State) : s.rxTimeout.seqState = s.seqState ∨ Edge s .rxTimeout s.rxTimeout.seqState := by
  unfold State.rxTimeout
  split_ifs with hs
  · exact .inr (by simp [Edge, hs])
  · exact .inl rfl

theorem edge_reset (s : State) : Edge s .reset .idle := by
  unfold Edge
  cases s.seqState <;> trivial

/-- Every step keeps SEQ_STATE or takes an edge of the table: of the other agents, only RESET and the CHANNEL move it. -/
theorem step_edge {s t : State} (h : step s = .next t) :
    t.seqState = s.seqState ∨ Edge s s.nextAction t.seqState := by
  rcases step_cases h with ⟨ha, hb⟩ | ⟨w, -, rfl⟩ | ⟨-, rfl⟩ | ⟨-, rfl⟩ | ⟨ha, rfl⟩ | ⟨i, -, rfl⟩ | ⟨b, ha, hr⟩ |
    ⟨ha, rfl⟩
  · rw [ha]
    exact (blockStep_edge hb).imp And.left And.right
  · exact .inl (s.popAction.hostEnqueue_seqState _ w)
  · exact .inl s.popAction.tick_seqState
  · exact .inl rfl
  · rw [ha]
    exact .inr (edge_reset s)
  · exact .inl rfl
  · rw [ha]
    exact State.rxByte_edge (s := s.popAction) hr
  · rw [ha]
    exact s.popAction.rxTimeout_edge

/-! TICK_PENDING (R231, 60_exceptions.md R280). -/

@[simp] theorem State.rxTimeout_tickPending (s : State) : s.rxTimeout.tickPending = s.tickPending := by
  unfold State.rxTimeout
  split <;> rfl

theorem State.rxByte_tickPending {s t : State} {b : Byte} (h : s.rxByte Config.ofBlock b = .next t) :
    t.tickPending = s.tickPending := by
  rcases State.rxByte_cases h with ⟨-, -, rfl⟩ | ⟨-, rfl⟩
  · exact s.storeByte_tickPending b
  · rfl

theorem blockStep_tickPending {s t : State} (h : blockStep s = .next t) :
    t.tickPending = s.tickPending ∨ s.seqState = .idle := by
  rcases blockStep_cases h with ⟨hs, -⟩ | ⟨-, w, i, k, -, -, -, rfl⟩ | ⟨-, -, rfl⟩ | ⟨-, rfl⟩ |
    ⟨-, w, i, k, -, -, -, rfl⟩ | ⟨-, rfl⟩ | ⟨-, rfl⟩
  · exact .inr hs
  · rcases s.execHalf_prepareOf_cases Config.ofBlock k w i with ⟨r, he⟩ | ⟨c, d, a, e, p, he⟩ <;> rw [he]
    · exact .inl (s.endJob_tickPending _ k w r)
    · exact .inl rfl
  · exact .inl s.sendFrame_tickPending
  · exact .inl rfl
  · exact .inl (State.endJob_tickPending (s.withCrc _) _ k w _)
  · exact .inl (s.sweepStep_tickPending _)
  · exact .inl rfl

/-- Without RESET and the BLOCK's IDLE step, a step keeps TICK_PENDING, or latches a tick outside STOPPED. -/
theorem step_tickPending {s t : State} (h : step s = .next t) (noReset : s.nextAction ≠ .reset)
    (noIdle : ¬ (s.nextAction = .block ∧ s.seqState = .idle)) :
    t.tickPending = s.tickPending ∨ (s.seqState ≠ .stopped ∧ t.tickPending = true) := by
  rcases step_cases h with ⟨ha, hb⟩ | ⟨w, -, rfl⟩ | ⟨-, rfl⟩ | ⟨-, rfl⟩ | ⟨ha, -⟩ | ⟨i, -, rfl⟩ | ⟨b, -, hr⟩ | ⟨-, rfl⟩
  · exact .inl ((blockStep_tickPending hb).resolve_right fun hs => noIdle ⟨ha, hs⟩)
  · exact .inl (s.popAction.hostEnqueue_tickPending _ w)
  · unfold State.tick
    split_ifs with stopped
    · exact .inl rfl
    · exact .inr ⟨stopped, rfl⟩
  · exact .inl rfl
  · exact absurd ha noReset
  · exact .inl rfl
  · exact .inl (State.rxByte_tickPending (s := s.popAction) hr)
  · exact .inl s.popAction.rxTimeout_tickPending

/-! The steps beside the BLOCK (10_state.md R20): what the HOST, RESET apart, and the CHANNEL leave of the BLOCK's work. -/

/-- SEQ_STATE and the work of the BLOCK are as before: its job, its buffers and their limit, its sweep times, and what it has
put out. -/
structure WorkKept (s t : State) : Prop where
  seqState : t.seqState = s.seqState
  curJob : t.curJob = s.curJob
  txBuf : t.txBuf = s.txBuf
  rxBuf : t.rxBuf = s.rxBuf
  rxLimit : t.rxLimit = s.rxLimit
  lastPoll : t.lastPoll = s.lastPoll
  lastSync : t.lastSync = s.lastSync
  reports : t.reports = s.reports
  sent : t.sent = s.sent

theorem WorkKept.refl (s : State) : WorkKept s s := ⟨rfl, rfl, rfl, rfl, rfl, rfl, rfl, rfl, rfl⟩

theorem WorkKept.trans {s t u : State} (h : WorkKept s t) (h' : WorkKept t u) : WorkKept s u where
  seqState := h'.seqState.trans h.seqState
  curJob := h'.curJob.trans h.curJob
  txBuf := h'.txBuf.trans h.txBuf
  rxBuf := h'.rxBuf.trans h.rxBuf
  rxLimit := h'.rxLimit.trans h.rxLimit
  lastPoll := h'.lastPoll.trans h.lastPoll
  lastSync := h'.lastSync.trans h.lastSync
  reports := h'.reports.trans h.reports
  sent := h'.sent.trans h.sent

/-- A step of the HOST other than RESET. -/
def Action.ofHost : Action → Bool
  | .enqueue _ => true
  | .tick => true
  | .shutdown => true
  | .drive _ => true
  | .block => false
  | .reset => false
  | .rxByte _ => false
  | .rxTimeout => false

theorem besideTheBlock_cases {a : Action} (h : besideTheBlock a = true) :
    a.ofHost = true ∨ (∃ b, a = .rxByte b) ∨ a = .rxTimeout := by
  cases a with
  | enqueue | tick | shutdown | drive => exact .inl rfl
  | rxByte b => exact .inr (.inl ⟨b, rfl⟩)
  | rxTimeout => exact .inr (.inr rfl)
  | block | reset => cases h

theorem besideTheBlock_iff (a : Action) : besideTheBlock a = true ↔ a ≠ .block ∧ a ≠ .reset := by
  cases a <;> simp [besideTheBlock]

/-- The HOST always has its step, and the BLOCK's work is none of it. -/
theorem agentStep_ofHost {a : Action} (ha : a.ofHost = true) (s : State) :
    ∃ t, agentStep a s = .next t ∧ t.schedule = s.schedule ∧ WorkKept s t := by
  cases a with
  | enqueue w => exact ⟨_, rfl, s.hostEnqueue_schedule _ w, by constructor <;> simp⟩
  | tick => exact ⟨_, rfl, s.tick_schedule, by constructor <;> simp⟩
  | shutdown => exact ⟨_, rfl, rfl, { WorkKept.refl s with }⟩
  | drive i => exact ⟨_, rfl, rfl, { WorkKept.refl s with }⟩
  | block | reset | rxByte | rxTimeout => cases ha

/-- Outside RECEIVE the CHANNEL's steps have no effect either (R241, R243). -/
theorem agentStep_beside {a : Action} (ha : besideTheBlock a = true) {s : State} (hs : s.seqState ≠ .receive) :
    ∃ t, agentStep a s = .next t ∧ t.schedule = s.schedule ∧ WorkKept s t := by
  cases a with
  | enqueue | tick | shutdown | drive => exact agentStep_ofHost rfl s
  | rxByte b => exact ⟨s, State.rxByte_discarded hs _ b, rfl, WorkKept.refl s⟩
  | rxTimeout => exact ⟨s, congrArg Host.Outcome.next (if_neg hs), rfl, WorkKept.refl s⟩
  | block | reset => cases ha

theorem step_of_host {s : State} (ha : s.nextAction.ofHost = true) :
    ∃ t, step s = .next t ∧ t.schedule = s.schedule.tail ∧ WorkKept s t := by
  obtain ⟨t, ht, sched, kept⟩ := agentStep_ofHost ha s.popAction
  exact ⟨t, ht, sched, { kept with }⟩

theorem step_of_beside {s : State} (ha : besideTheBlock s.nextAction = true) (hs : s.seqState ≠ .receive) :
    ∃ t, step s = .next t ∧ t.schedule = s.schedule.tail ∧ WorkKept s t := by
  obtain ⟨t, ht, sched, kept⟩ := agentStep_beside (s := s.popAction) ha hs
  exact ⟨t, ht, sched, { kept with }⟩

/-- In STOPPED the work of the BLOCK stands still, whoever has the step, RESET apart (R256). -/
theorem step_of_stopped {s t : State} (hs : s.seqState = .stopped) (noReset : s.nextAction ≠ .reset)
    (h : step s = .next t) : WorkKept s t := by
  by_cases block : s.nextAction = .block
  · rw [step_of_waiting block (.inr hs)] at h
    obtain rfl := Host.Outcome.next.inj h
    exact { WorkKept.refl s with }
  · obtain ⟨u, hu, -, kept⟩ := step_of_beside ((besideTheBlock_iff _).2 ⟨block, noReset⟩) (by rw [hs]; decide)
    obtain rfl := Host.Outcome.next.inj (hu.symm.trans h)
    exact kept

/-! Jobs and their outcome reports (R233, R252). -/

theorem outcomeReports_of_reports {s t : State} (h : t.reports = s.reports) : outcomeReports t = outcomeReports s := by
  rw [outcomeReports, h, outcomeReports]

/-- QUEUE_OVERFLOW is no result of a job, so the end of a job gives one outcome report, whatever becomes of its retry. -/
theorem outcomeReports_endJob (s : State) (cfg : Config) (k : JobKind) (w : JobWord) (r : JobResult) :
    outcomeReports (s.endJob cfg k w r) = outcomeReports s + 1 := by
  have own : r.outcome ≠ .queueOverflow := by cases r <;> nofun
  rcases s.endJob_cases cfg k w r with ⟨-, -, -, hp⟩ | ⟨-, -, -, -, hp⟩ | ⟨-, -, -, -, hp⟩ <;>
    simp [outcomeReports, hp, jobReport, overflowReport, own]

/-- The words that find no room give no outcome report (R234). -/
theorem outcomeReports_enqueueAll (s : State) (cfg : Config) (ws : List JobWord) :
    outcomeReports (s.enqueueAll cfg ws) = outcomeReports s := by
  have lost (l : List JobWord) : (l.map overflowReport).filter (fun r => decide (r.outcome ≠ .queueOverflow)) = [] :=
    List.filter_eq_nil_iff.2 (List.forall_mem_map.2 fun _ _ => by simp [overflowReport])
  rw [State.enqueueAll_eq, outcomeReports, List.filter_append, lost, List.append_nil, outcomeReports]

theorem outcomeReports_sweepStep (s : State) (cfg : Config) : outcomeReports (s.sweepStep cfg) = outcomeReports s := by
  rw [State.sweepStep_eq]
  exact outcomeReports_enqueueAll _ cfg _

/-- The jobs popped since the start of the reports: those that are reported and the one in its window. -/
def poppedJobs (s : State) : Nat := outcomeReports s + jobsInFlight s

theorem poppedJobs_of_kept {s t : State} (reports : t.reports = s.reports) (curJob : t.curJob = s.curJob) :
    poppedJobs t = poppedJobs s := by
  rw [poppedJobs, outcomeReports_of_reports reports, jobsInFlight, curJob, poppedJobs, jobsInFlight]

/-- A job that ends leaves its window with its report. -/
theorem poppedJobs_endJob {s : State} {w : JobWord} (job : s.curJob = some w) (cfg : Config) (k : JobKind) (v : JobWord)
    (r : JobResult) : poppedJobs (s.endJob cfg k v r) = poppedJobs s := by
  simp [poppedJobs, outcomeReports_endJob, jobsInFlight, job]

/-- The IDLE step pops a job exactly when it goes to EXEC. -/
theorem Inv.poppedJobs_idleStep {s : State} (h : Inv s) (hs : s.seqState = .idle) :
    poppedJobs s.idleStep = poppedJobs s + (if s.idleStep.seqState = .exec then 1 else 0) := by
  have noJob : s.curJob = none := by simpa [hs, SeqState.hasJob] using h.jobWindow
  rcases s.idleStep_cases with ⟨-, he⟩ | ⟨-, -, w, rest, -, he⟩ | ⟨-, -, -, he⟩ | ⟨-, -, he⟩ <;> rw [he]
  · rfl
  · simp [poppedJobs, outcomeReports, jobsInFlight, noJob]
  · rfl
  · simp [hs]

/-- Of the BLOCK's steps only IDLE's pops a job, and each that ends one reports it. -/
theorem Inv.poppedJobs_blockStep {s t : State} (h : Inv s) (hb : Machine.blockStep s = .next t) :
    poppedJobs t = poppedJobs s + (if s.seqState = .idle ∧ t.seqState = .exec then 1 else 0) := by
  rcases blockStep_cases hb with ⟨hs, rfl⟩ | ⟨hs, w, i, k, job, -, -, rfl⟩ | ⟨hs, -, rfl⟩ | ⟨hs, rfl⟩ |
    ⟨hs, w, i, k, job, -, -, rfl⟩ | ⟨hs, rfl⟩ | ⟨hs, rfl⟩ <;> simp only [hs, reduceCtorEq, false_and, true_and, if_false]
  · exact h.poppedJobs_idleStep hs
  · rcases s.execHalf_prepareOf_cases Config.ofBlock k w i with ⟨r, he⟩ | ⟨c, d, a, e, p, he⟩ <;> rw [he]
    · exact poppedJobs_endJob job _ k w r
    · rfl
  · rfl
  · rfl
  · exact poppedJobs_endJob (s := s.withCrc (crcAfterJudge (evalClass k) s.crc s.rxBuf)) job _ k w
      (judge (evalClass k) s.rxBuf)
  · simp [poppedJobs, outcomeReports_sweepStep, jobsInFlight]
  · rfl

theorem State.rxByte_curJob {s t : State} {b : Byte} (h : s.rxByte Config.ofBlock b = .next t) : t.curJob = s.curJob := by
  rcases State.rxByte_cases h with ⟨-, -, rfl⟩ | ⟨-, rfl⟩
  · exact s.storeByte_curJob b
  · rfl

@[simp] theorem State.rxTimeout_curJob (s : State) : s.rxTimeout.curJob = s.curJob := by
  unfold State.rxTimeout
  split <;> rfl

/-- The other agents, RESET apart, leave the job and the reports. -/
theorem poppedJobs_agentStep {a : Action} (ha : besideTheBlock a = true) {s t : State} (h : agentStep a s = .next t) :
    poppedJobs t = poppedJobs s := by
  cases a with
  | enqueue w =>
    obtain rfl := Host.Outcome.next.inj h
    exact poppedJobs_of_kept (s.hostEnqueue_reports _ w) (s.hostEnqueue_curJob _ w)
  | tick =>
    obtain rfl := Host.Outcome.next.inj h
    exact poppedJobs_of_kept s.tick_reports s.tick_curJob
  | shutdown | drive =>
    obtain rfl := Host.Outcome.next.inj h
    rfl
  | rxByte b => exact poppedJobs_of_kept (State.rxByte_reports h) (State.rxByte_curJob h)
  | rxTimeout =>
    obtain rfl := Host.Outcome.next.inj h
    exact poppedJobs_of_kept s.rxTimeout_reports s.rxTimeout_curJob
  | block | reset => cases ha

/-- EXEC is entered by the BLOCK alone. -/
theorem eq_block_of_edge_exec {s : State} {a : Action} (h : Edge s a .exec) : a = .block := by
  cases a with
  | block => rfl
  | enqueue | tick | shutdown | reset | drive | rxByte | rxTimeout =>
    unfold Edge at h
    cases hs : s.seqState <;> simp [hs] at h

/-! The sweeps (R245 to R248). -/

/-- A job word without UNIT and ARG: ADDR in bits 15:8 above the KIND (30_encoding.md R100). -/
theorem jobWord_plain_eq (k : BitVec 3) {a : Nat} (ha : a < 256) :
    jobWord k 0#1 (BitVec.ofNat 8 a) 0#8 = BitVec.ofNat 32 (a * 256 + k.toNat) := by
  have kind := k.isLt
  have shifted : a <<< 8 = a * 256 := Nat.shiftLeft_eq a 8
  have fields : a <<< 8 ||| k.toNat = a * 256 + k.toNat := by
    rw [← Nat.shiftLeft_add_eq_or_of_lt (by omega), shifted]
  apply BitVec.eq_of_toNat_eq
  rw [BitVec.toNat_ofNat, Nat.mod_eq_of_lt (by omega), ← fields]
  have fit (n : Nat) (h : n < 65536) : n % 4294967296 = n := Nat.mod_eq_of_lt (by omega)
  simp [jobWord, Nat.mod_eq_of_lt ha, fit a (by omega), fit (a <<< 8) (by omega), fit k.toNat (by omega)]

/-- The words of a sweep, as the known addresses in ascending order give them. -/
theorem map_knownAddresses (known : BitVec 31) (k : BitVec 3) :
    (knownAddresses known).map (fun a => jobWord k 0#1 a 0#8) = sweepWords known k.toNat := by
  have addresses : List.range 32 = 0 :: sweepAddresses := by decide
  have word (a : Nat) (ha : a ∈ sweepAddresses) :
      jobWord k 0#1 (BitVec.ofNat 8 a) 0#8 = BitVec.ofNat 32 (a * 256 + k.toNat) :=
    jobWord_plain_eq k (by simp only [sweepAddresses, List.mem_range'_1] at ha; omega)
  have selected (a : Nat) (ha : a ∈ sweepAddresses) :
      isKnown known a = (decide (1 ≤ a) && known.getLsbD (a - 1)) := by
    simp only [sweepAddresses, List.mem_range'_1] at ha
    simp [isKnown, ha.1]
  rw [sweepWords, addresses, List.filter_cons_of_neg (by simp), ← List.filter_congr selected, knownAddresses, List.map_map]
  exact List.map_congr_left fun a ha => word a (List.mem_of_mem_filter ha)

theorem map_pollWord (known : BitVec 31) : (knownAddresses known).map pollWord = sweepWords known 0 :=
  map_knownAddresses known 0#3

theorem map_syncWord (known : BitVec 31) : (knownAddresses known).map syncWord = sweepWords known 1 :=
  map_knownAddresses known 1#3

/-- The SWEEP step, field by field. -/
theorem State.sweepStep_eq_sweptWords (s : State) (cfg : Config) :
    s.sweepStep cfg = { s with
      lastPoll := if (s.host.now - s.lastPoll).toNat > s.host.pollInterval.toNat then s.host.now else s.lastPoll
      lastSync := if (s.host.now - s.lastSync).toNat > s.host.syncInterval.toNat then s.host.now else s.lastSync
      q := s.q ++ (sweptWords s).take (cfg.queueDepth - s.q.length)
      overflow := s.overflow || decide (cfg.queueDepth - s.q.length < (sweptWords s).length)
      reports := s.reports ++ ((sweptWords s).drop (cfg.queueDepth - s.q.length)).map lostReport
      seqState := .idle } := by
  rw [State.sweepStep_eq, State.enqueueAll_eq, map_pollWord, map_syncWord]
  simp only [intervalExceeded, decide_eq_true_eq]
  rfl

/-! Runs of the machine (10_state.md R20), and the invariant along them. -/

theorem run_step {s t : State} (h : step s = .next t) (n : Nat) : core.run (n + 1) s = core.run n t := by
  have next : core.step s = .next t := h
  simp only [Host.Core.run, next]

/-- A run that answers a state has taken its first step. -/
theorem run_succ_next {s t : State} {n : Nat} (h : core.run (n + 1) s = .next t) :
    ∃ u, step s = .next u ∧ core.run n u = .next t := by
  cases hu : core.step s with
  | next u => exact ⟨u, hu, (run_step hu n).symm.trans h⟩
  | fault r => simp [Host.Core.run, hu] at h
  | refused r => simp [Host.Core.run, hu] at h

theorem run_append {m : Nat} {s t : State} (h : core.run m s = .next t) (n : Nat) :
    core.run (m + n) s = core.run n t := by
  induction m generalizing s with
  | zero =>
    obtain rfl := Host.Outcome.next.inj h
    rw [Nat.zero_add]
  | succ m ih =>
    obtain ⟨u, hu, h⟩ := run_succ_next h
    rw [Nat.succ_add_eq_add_succ, Nat.add_succ, run_step hu, ih h]

theorem Inv.run {n : Nat} {s t : State} (hinv : Inv s) (h : core.run n s = .next t) : Inv t := by
  induction n generalizing s with
  | zero =>
    obtain rfl := Host.Outcome.next.inj h
    exact hinv
  | succ n ih =>
    obtain ⟨u, hu, h⟩ := run_succ_next h
    exact ih (hinv.step hu) h

/-! A transaction from SEND to IDLE (R240 to R245, R254). -/

/-- In SEND the invariant has a request of the block in TX_BUF, whose FUNC byte is the SEND step (R240). -/
theorem Inv.step_of_send {s : State} (h : Inv s) (block : s.nextAction = .block) (hs : s.seqState = .send) :
    Machine.step s = .next s.popAction.sendFrame := by
  obtain ⟨w, i, k, hw, hi, hk⟩ := h.job (by rw [hs]; rfl)
  obtain ⟨b, at3, func, -⟩ := frameServes_shape hk (h.requestInFlight (by rw [hs]; rfl) w i hw hi)
  have fetched : s.popAction.fetch = .code (.func b) := State.fetch_func hs at3
  have sends : runFrame s.popAction = .next s.popAction.sendFrame := (runFrame_next _ _).2 ⟨hs, rfl⟩
  rw [step_of_block block]
  cases hc : evalClass k with
  | status =>
    obtain rfl := (frameFuncOf_eq_read_iff b).1 (by rw [func, hc]; rfl)
    exact (blockStep_of_code (i := .read) fetched rfl).trans sends
  | ack =>
    obtain rfl := (frameFuncOf_eq_write_iff b).1 (by rw [func, hc]; rfl)
    exact (blockStep_of_code (i := .write) fetched rfl).trans sends

/-- In EVAL the invariant has a legal job in CUR_JOB, and its EVAL half ends it (R244). -/
theorem Inv.step_of_eval {s : State} (h : Inv s) (block : s.nextAction = .block) (hs : s.seqState = .eval) :
    ∃ k w, Machine.step s = .next (s.popAction.evalHalf Config.ofBlock k w) := by
  obtain ⟨w, i, k, hw, hi, hk⟩ := h.job (by rw [hs]; rfl)
  refine ⟨k, w, ?_⟩
  rw [step_of_block block, blockStep_of_code (State.fetch_job (s := s.popAction) (.inr hs) hw) hi]
  exact (exec_job_next hk _ _).2 ⟨w, hw, .inr ⟨hs, rfl⟩⟩

section EvalHalf
variable (s : State) (cfg : Config) (k : JobKind) (w : JobWord)
@[simp] theorem State.evalHalf_seqState : (s.evalHalf cfg k w).seqState = .sweep := by simp [State.evalHalf]
@[simp] theorem State.evalHalf_curJob : (s.evalHalf cfg k w).curJob = none := by simp [State.evalHalf]
@[simp] theorem State.evalHalf_rxBuf : (s.evalHalf cfg k w).rxBuf = s.rxBuf := by simp [State.evalHalf]
@[simp] theorem State.evalHalf_schedule : (s.evalHalf cfg k w).schedule = s.schedule := by simp [State.evalHalf]
@[simp] theorem State.evalHalf_sent : (s.evalHalf cfg k w).sent = s.sent := by simp [State.evalHalf]
theorem outcomeReports_evalHalf : outcomeReports (s.evalHalf cfg k w) = outcomeReports s + 1 :=
  outcomeReports_endJob (s.withCrc _) cfg k w _
end EvalHalf

/-- The HOST brings no byte and no timeout. -/
theorem bytesBeforeTimeout_ofHost {a : Action} (ha : a.ofHost = true) (acts : List Action) :
    bytesBeforeTimeout (a :: acts) = bytesBeforeTimeout acts := by
  cases a with
  | enqueue | tick | shutdown | drive => rfl
  | block | reset | rxByte | rxTimeout => cases ha

/-- The reception has ended in EVAL: after what RX_BUF held come the bytes that fit RX_LIMIT, and nothing was put out. -/
structure Received (s t : State) (bytes : List Byte) : Prop where
  seqState : t.seqState = .eval
  rxBuf : t.rxBuf = (s.rxBuf ++ bytes).take s.rxLimit
  reports : t.reports = s.reports
  sent : t.sent = s.sent

/-- What keeps the BLOCK's work may come after the reception. -/
theorem Received.trans_kept {s t u : State} {bytes : List Byte} (h : Received s t bytes) (kept : WorkKept t u) :
    Received s u bytes where
  seqState := kept.seqState.trans h.seqState
  rxBuf := kept.rxBuf.trans h.rxBuf
  reports := kept.reports.trans h.reports
  sent := kept.sent.trans h.sent

/-- And it may come before. -/
theorem WorkKept.trans_received {s t u : State} {bytes : List Byte} (kept : WorkKept s t) (h : Received t u bytes) :
    Received s u bytes where
  seqState := h.seqState
  rxBuf := by rw [h.rxBuf, kept.rxBuf, kept.rxLimit]
  reports := h.reports.trans kept.reports
  sent := h.sent.trans kept.sent

section Schedule
variable {s : State} {acts rest : List Action}

theorem nextAction_of_schedule {a : Action} (h : s.schedule = a :: rest) : s.nextAction = a := by
  rw [State.nextAction, h]
  rfl

/-- Outside RECEIVE the HOST and the CHANNEL take any of their steps beside the BLOCK, and its work stays as it was. -/
theorem run_beside (hs : s.seqState ≠ .receive) (beside : ∀ a ∈ acts, besideTheBlock a = true)
    (hsched : s.schedule = acts ++ rest) :
    ∃ t : State, core.run acts.length s = .next t ∧ t.schedule = rest ∧ WorkKept s t := by
  induction acts generalizing s with
  | nil => exact ⟨s, rfl, hsched, WorkKept.refl s⟩
  | cons a acts ih =>
    obtain ⟨ha, others⟩ := List.forall_mem_cons.1 beside
    obtain ⟨u, hu, sched, kept⟩ := step_of_beside (by rw [nextAction_of_schedule hsched]; exact ha) hs
    have outside : u.seqState ≠ .receive := by rw [kept.seqState]; exact hs
    obtain ⟨t, hrun, ht, kept'⟩ := ih outside others (sched.trans (congrArg List.tail hsched))
    exact ⟨t, (run_step hu _).trans hrun, ht, kept.trans kept'⟩

/-- A step that ends the reception, with any steps beside the BLOCK after it. -/
theorem run_of_received {u : State} {bytes : List Byte} (hstep : step s = .next u) (got : Received s u bytes)
    (beside : ∀ a ∈ acts, besideTheBlock a = true) (hsched : u.schedule = acts ++ rest) :
    ∃ t : State, core.run (acts.length + 1) s = .next t ∧ t.schedule = rest ∧ Received s t bytes := by
  obtain ⟨t, hrun, ht, kept⟩ := run_beside (by rw [got.seqState]; decide) beside hsched
  exact ⟨t, (run_step hstep _).trans hrun, ht, got.trans_kept kept⟩

/-- In RECEIVE, steps beside the BLOCK that hold a timeout or enough bytes for RX_LIMIT end the reception, whichever comes
first; what comes after it changes nothing (R241 to R243). -/
theorem Inv.run_reception (h : Inv s) (hs : s.seqState = .receive) (beside : ∀ a ∈ acts, besideTheBlock a = true)
    (ends : .rxTimeout ∈ acts ∨ s.rxLimit ≤ s.rxBuf.length + (bytesBeforeTimeout acts).length)
    (hsched : s.schedule = acts ++ rest) :
    ∃ t : State, core.run acts.length s = .next t ∧ t.schedule = rest ∧ Received s t (bytesBeforeTimeout acts) := by
  induction acts generalizing s with
  | nil => exact absurd (ends.resolve_left List.not_mem_nil) (h.receiving hs).not_ge
  | cons a acts ih =>
    obtain ⟨ha, others⟩ := List.forall_mem_cons.1 beside
    rcases besideTheBlock_cases ha with host | ⟨b, rfl⟩ | rfl
    · obtain ⟨u, hu, sched, kept⟩ := step_of_host (by rw [nextAction_of_schedule hsched]; exact host)
      rw [bytesBeforeTimeout_ofHost host] at ends ⊢
      have later : Action.rxTimeout ∈ acts ∨ u.rxLimit ≤ u.rxBuf.length + (bytesBeforeTimeout acts).length := by
        rw [kept.rxLimit, kept.rxBuf]
        exact ends.imp_left (List.mem_of_ne_of_mem (by rintro rfl; cases host))
      obtain ⟨t, hrun, ht, got⟩ :=
        ih (h.step hu) (kept.seqState.trans hs) others later (sched.trans (congrArg List.tail hsched))
      exact ⟨t, (run_step hu _).trans hrun, ht, kept.trans_received got⟩
    · have hstep := h.step_of_rxByte (rest := acts ++ rest) hs hsched
      have bytes : s.rxBuf ++ bytesBeforeTimeout (.rxByte b :: acts) = (s.rxBuf ++ [b]) ++ bytesBeforeTimeout acts := by
        simp [bytesBeforeTimeout]
      rcases State.storeByte_cases { s with schedule := acts ++ rest } b with ⟨full, he⟩ | ⟨more, he⟩ <;>
        rw [he] at hstep
      · have kept : s.rxBuf ++ [b] = (s.rxBuf ++ bytesBeforeTimeout (.rxByte b :: acts)).take s.rxLimit := by
          rw [bytes, List.take_left' (by simpa using full)]
        exact run_of_received hstep ⟨rfl, kept, rfl, rfl⟩ others rfl
      · have later : Action.rxTimeout ∈ acts ∨
            s.rxLimit ≤ (s.rxBuf ++ [b]).length + (bytesBeforeTimeout acts).length := by
          rw [← List.length_append, ← bytes, List.length_append]
          exact ends.imp_left (List.mem_of_ne_of_mem (by nofun))
        obtain ⟨t, hrun, ht, got⟩ := ih (h.step hstep) hs others later rfl
        exact ⟨t, (run_step hstep _).trans hrun, ht, got.seqState, bytes ▸ got.rxBuf, got.reports, got.sent⟩
    · have kept : s.rxBuf = (s.rxBuf ++ bytesBeforeTimeout (.rxTimeout :: acts)).take s.rxLimit := by
        rw [bytesBeforeTimeout, List.append_nil, List.take_of_length_le (h.receiving hs).le]
      exact run_of_received (step_of_rxTimeout hs hsched) ⟨rfl, kept, rfl, rfl⟩ others rfl

end Schedule

end Sys2Proof.Machine

namespace Sys2Proof

open Machine

/-- Settles O15, by the edge that each agent's step takes. -/
theorem seqStateMovesAlongTheEdges : Obligations.SeqStateMovesAlongTheEdges := by
  refine fun s t h => ⟨step_edge h, fun block running => ?_⟩
  rw [step_of_block block] at h
  rcases blockStep_edge h with ⟨-, waits⟩ | ⟨moved, -⟩
  · rw [State.popAction_seqState] at waits
    rcases waits with hs | hs | hs <;> simp [hs] at running
  · exact moved

/-- Settles O16: nobody but RESET touches the BLOCK's work in STOPPED, and the FIFO only grows outside IDLE. -/
theorem stoppedIsLeftByResetOnly : Obligations.StoppedIsLeftByResetOnly := by
  intro s t hs noReset h
  have kept := step_of_stopped hs noReset h
  have tick : t.tickPending = s.tickPending :=
    (step_tickPending h noReset fun idle => nomatch hs.symm.trans idle.2).resolve_right fun set => set.1 hs
  obtain ⟨added, hq⟩ : s.q <+: t.q := (step_q h noReset).resolve_right fun idle => nomatch hs.symm.trans idle.1
  exact ⟨kept.seqState.trans hs, kept.curJob, kept.sent, kept.reports, tick, kept.txBuf, kept.rxBuf, kept.lastPoll,
    kept.lastSync, added, hq.symm⟩

/-- Settles O21: every other step keeps a pending tick or sets one. -/
theorem tickIsConsumedOnlyInIdle : Obligations.TickIsConsumedOnlyInIdle := by
  intro s t h pending cleared
  by_contra other
  obtain ⟨noIdle, noReset⟩ := not_or.1 other
  rcases step_tickPending h noReset noIdle with kept | ⟨-, set⟩
  · exact nomatch (kept.trans pending).symm.trans cleared
  · exact nomatch set.symm.trans cleared

/-- Settles O42: a job is counted from its pop on, first in its window and then by its report. -/
theorem everyPoppedJobIsReportedOnce : Obligations.EveryPoppedJobIsReportedOnce := by
  intro s t hinv h noReset
  have edge := step_edge h
  rw [step_eq] at h
  by_cases block : s.nextAction = .block
  · rw [block] at h
    exact hinv.popAction.poppedJobs_blockStep h
  · have notPopped : ¬ (s.seqState = .idle ∧ t.seqState = .exec) := by
      rintro ⟨hs, ht⟩
      rw [hs, ht] at edge
      exact block (eq_block_of_edge_exec (edge.resolve_left nofun))
    rw [if_neg notPopped]
    exact poppedJobs_agentStep (s := s.popAction) ((besideTheBlock_iff _).2 ⟨block, noReset⟩) h

/-- Settles O44: the two sweeps are one enqueue of their words in order. -/
theorem sweepStep : Obligations.SweepStep := by
  intro s block hs
  rw [step_of_sweep block hs, State.sweepStep_eq_sweptWords]
  rfl

/-- Settles O60, leg by leg: beside SEND, the SEND step, the reception, the EVAL step, beside SWEEP, the SWEEP step. -/
theorem everyTransactionEnds : Obligations.EveryTransactionEnds := by
  intro s before during swept inv hs beside ends hsched
  simp only [List.forall_mem_append] at beside
  obtain ⟨⟨besideBefore, besideDuring⟩, besideSwept⟩ := beside
  obtain ⟨s₁, run₁, sched₁, kept₁⟩ := run_beside (by rw [hs]; decide) besideBefore hsched
  have inv₁ := inv.run run₁
  have send := inv₁.step_of_send (nextAction_of_schedule sched₁) (kept₁.seqState.trans hs)
  have sched₂ : s₁.popAction.sendFrame.schedule = during ++ .block :: (swept ++ [.block]) := congrArg List.tail sched₁
  have enough : Action.rxTimeout ∈ during ∨ s₁.rxLimit ≤ 0 + (Claim.bytesBeforeTimeout during).length := by
    rwa [kept₁.rxLimit, Nat.zero_add]
  obtain ⟨s₃, run₃, sched₃, got⟩ := (inv₁.step send).run_reception rfl besideDuring enough sched₂
  obtain ⟨k, w, eval⟩ := ((inv₁.step send).run run₃).step_of_eval (nextAction_of_schedule sched₃) got.seqState
  have sched₄ : (s₃.popAction.evalHalf Config.ofBlock k w).schedule = swept ++ [.block] := by
    rw [State.evalHalf_schedule, State.popAction_schedule, sched₃]
    rfl
  obtain ⟨s₅, run₅, sched₅, kept₅⟩ := run_beside (by rw [State.evalHalf_seqState]; decide) besideSwept sched₄
  have sweep := step_of_sweep (nextAction_of_schedule sched₅) (kept₅.seqState.trans (State.evalHalf_seqState ..))
  refine ⟨s₅.popAction.sweepStep Config.ofBlock, ?_, rfl, ?_, ?_, ?_, ?_, ?_⟩
  · have length : s.schedule.length = before.length + (during.length + (swept.length + (0 + 1) + 1) + 1) := by
      rw [hsched]
      simp
    rw [length, run_append run₁, run_step send, run_append run₃, run_step eval, run_append run₅, run_step sweep]
    rfl
  · rw [State.sweepStep_curJob, State.popAction_curJob, kept₅.curJob, State.evalHalf_curJob]
  · rw [State.sweepStep_schedule, State.popAction_schedule, sched₅]
    rfl
  · calc outcomeReports (s₅.popAction.sweepStep Config.ofBlock)
      _ = outcomeReports s₅ := outcomeReports_sweepStep s₅.popAction _
      _ = outcomeReports (s₃.popAction.evalHalf Config.ofBlock k w) := outcomeReports_of_reports kept₅.reports
      _ = outcomeReports s₃ + 1 := outcomeReports_evalHalf s₃.popAction _ k w
      _ = outcomeReports s + 1 := by rw [outcomeReports_of_reports (got.reports.trans kept₁.reports)]
  · rw [State.sweepStep_sent, State.popAction_sent, kept₅.sent, State.evalHalf_sent, State.popAction_sent, got.sent,
      State.sendFrame_sent, State.popAction_sent, State.popAction_txBuf, kept₁.sent, kept₁.txBuf]
  · rw [State.sweepStep_rxBuf, State.popAction_rxBuf, kept₅.rxBuf, State.evalHalf_rxBuf, State.popAction_rxBuf, got.rxBuf,
      State.sendFrame_rxBuf, State.sendFrame_rxLimit, State.popAction_rxLimit, kept₁.rxLimit, List.nil_append]

/-- Settles O7: the fetch yields the code, and its instruction is the BLOCK's step. -/
theorem stepRunsTheDecodedInstruction : Obligations.StepRunsTheDecodedInstruction := by
  intro s c i block fetches hi
  rw [step_of_block block]
  rcases fetches with ⟨hs, w, job, rfl⟩ | ⟨hs, b, at3, rfl⟩
  · exact blockStep_of_code (State.fetch_job (s := s.popAction) hs job) hi
  · exact blockStep_of_code (State.fetch_func (s := s.popAction) hs at3) hi

/-- Settles O8: in IDLE without a flag the IDLE step is idle, and in the other two states nothing is enabled. -/
theorem blockWaitsWhereNoStepIsEnabled : Obligations.BlockWaitsWhereNoStepIsEnabled := by
  intro s block waits
  rcases waits with ⟨hs, noShutdown, noTick⟩ | hs
  · rw [step_of_idle block hs, State.idleStep_of_quiet (s := s.popAction) noShutdown noTick]
    rfl
  · exact step_of_waiting block hs

/-- Settles O23: RxByte is discarded outside RECEIVE, and the invariant has room for it there. -/
theorem bytesAreKeptOnlyInReceive : Obligations.BytesAreKeptOnlyInReceive := by
  refine fun s b rest hsched => ⟨fun hs => ?_, fun inv hs => ?_⟩
  · rw [step_of_schedule hsched]
    exact State.rxByte_discarded (s := { s with schedule := rest }) hs _ b
  · exact ⟨_, inv.step_of_rxByte hs hsched, State.storeByte_rxBuf _ b⟩

/-- Settles O24: in RECEIVE the invariant has the count below the limit, so a byte reaches it or stays below. -/
theorem receivingAByte : Obligations.ReceivingAByte := by
  intro s b rest hsched inv hs
  rw [inv.step_of_rxByte hs hsched]
  refine ⟨fun full => ?_, fun more => ?_, inv.receiving hs⟩
  · exact congrArg Host.Outcome.next (if_pos (by simpa using full))
  · exact congrArg Host.Outcome.next (if_neg (by simpa using more))

/-- Settles O25, by the two cases of RxTimeout. -/
theorem timeoutEndsReception : Obligations.TimeoutEndsReception := by
  refine fun s rest hsched => ⟨fun hs => step_of_rxTimeout hs hsched, fun hs => ?_⟩
  exact (step_of_schedule hsched).trans (congrArg Host.Outcome.next (if_neg hs))

/-- Settles O26, by the IDLE step at a tick. -/
theorem tickStartsOneJob : Obligations.TickStartsOneJob := by
  intro s block hs noShutdown tick
  rw [step_of_idle block hs]
  refine ⟨fun w rest hq => ?_, fun hq => ?_⟩
  · rw [State.idleStep_of_job (s := s.popAction) noShutdown tick hq]
    rfl
  · rw [State.idleStep_of_empty (s := s.popAction) noShutdown tick hq]
    rfl

/-- Settles O27: the IDLE step looks at SHUTDOWN_REQ first. -/
theorem shutdownStopsInIdle : Obligations.ShutdownStopsInIdle := by
  intro s block hs down
  rw [step_of_idle block hs]
  exact congrArg Host.Outcome.next (if_pos down)

/-- Settles O33: both frame functions are the SEND step. -/
theorem readAndWriteSendTheFrame : Obligations.ReadAndWriteSendTheFrame := by
  intro s hs
  have send : runFrame s = .next s.sendFrame := (runFrame_next s _).2 ⟨hs, rfl⟩
  exact ⟨send, send⟩

/-- Settles O34: the shared operation of the job kinds, and that of the frame functions, fault outside their states. -/
theorem instructionsFaultOutsideTheirState : Obligations.InstructionsFaultOutsideTheirState := by
  refine fun s i => ⟨fun k hk exec eval => ?_, fun k hk hs noJob => ?_, fun frame send => ?_⟩
  · rw [exec_job hk, runJob_outside exec eval]
  · rw [exec_job hk, runJob_noJob hs noJob]
  · rcases frame with rfl | rfl
    · exact runFrame_outside send
    · exact runFrame_outside send

/-- Settles O41, by the two cases of Enqueue. -/
theorem internalEnqueue : Obligations.InternalEnqueue := by
  intro cfg s w
  rcases s.enqueue_cases cfg w with ⟨room, he⟩ | ⟨full, he⟩ <;> rw [he]
  · exact ⟨fun _ => rfl, fun full => absurd room full⟩
  · exact ⟨fun room => absurd room full, fun _ => rfl⟩

end Sys2Proof

/-! Exceptions (60_exceptions.md): the invariant leaves every agent a next state, and the sweep intervals at their
corners. -/

namespace Sys2Proof.Machine

/-! The BLOCK's and the CHANNEL's step under the invariant (R270). -/

/-- In EXEC the invariant has a legal job in CUR_JOB, and its EXEC half runs (44_sequencer.md R236). -/
theorem Inv.step_of_exec {s : State} (h : Inv s) (block : s.nextAction = .block) (hs : s.seqState = .exec) :
    ∃ k w i, Machine.step s =
      .next (s.popAction.execHalf Config.ofBlock k w (prepareOf i Config.ofBlock s.popAction)) := by
  obtain ⟨w, i, k, hw, hi, hk⟩ := h.job (by rw [hs]; rfl)
  refine ⟨k, w, i, ?_⟩
  rw [step_of_block block, blockStep_of_code (State.fetch_job (s := s.popAction) (.inl hs) hw) hi]
  exact (exec_job_next hk _ _).2 ⟨w, hw, .inl ⟨hs, rfl⟩⟩

/-- Under the invariant the BLOCK always has its step, one case per SEQ_STATE (44_sequencer.md R230). -/
theorem Inv.exists_step_of_block {s : State} (h : Inv s) (block : s.nextAction = .block) :
    ∃ t, Machine.step s = .next t := by
  cases hs : s.seqState with
  | idle => exact ⟨_, step_of_idle block hs⟩
  | exec =>
    obtain ⟨_, _, _, hstep⟩ := h.step_of_exec block hs
    exact ⟨_, hstep⟩
  | send => exact ⟨_, h.step_of_send block hs⟩
  | eval =>
    obtain ⟨_, _, hstep⟩ := h.step_of_eval block hs
    exact ⟨_, hstep⟩
  | sweep => exact ⟨_, step_of_sweep block hs⟩
  | receive => exact ⟨_, step_of_waiting block (.inl hs)⟩
  | stopped => exact ⟨_, step_of_waiting block (.inr hs)⟩

/-- Under the invariant a byte always finds its place in RX_BUF, or is discarded (44_sequencer.md R241, R242). -/
theorem Inv.exists_rxByte {s : State} (h : Inv s) (b : Byte) : ∃ t, s.rxByte Config.ofBlock b = .next t := by
  by_cases hs : s.seqState = .receive
  · have room : s.rxCount < Config.ofBlock.rxCapacity := (h.receiving hs).trans_le h.limitBound
    exact ⟨s.storeByte b, (if_pos hs).trans (if_pos room)⟩
  · exact ⟨s, State.rxByte_discarded hs _ b⟩

/-! The check of an interval (44_sequencer.md R247, R248). -/

/-- The elapsed time of an exceeded interval, modulo 2^32, is strictly greater than the interval. -/
theorem intervalExceeded_iff (now last interval : BitVec 32) :
    intervalExceeded now last interval = true ↔ interval.toNat < (now - last).toNat := decide_eq_true_iff

/-- The interval 0 is exceeded as soon as any time has passed (R286). -/
theorem intervalExceeded_zero_iff (now last : BitVec 32) : intervalExceeded now last 0#32 = true ↔ now ≠ last := by
  rw [intervalExceeded_iff, BitVec.toNat_zero]
  have elapsed : 0 < (now - last).toNat ↔ ¬ now.toNat = last.toNat := by
    have := now.isLt
    have := last.isLt
    rw [BitVec.toNat_sub]
    omega
  rw [elapsed, BitVec.toNat_inj]

/-- No elapsed time is above the greatest 32-bit value (R286). -/
theorem intervalExceeded_allOnes (now last : BitVec 32) : intervalExceeded now last 0xFFFFFFFF#32 = false := by
  have elapsed := (now - last).isLt
  have greatest : (0xFFFFFFFF#32 : BitVec 32).toNat = 2 ^ 32 - 1 := rfl
  rw [Bool.eq_false_iff, ne_eq, intervalExceeded_iff, greatest]
  omega

/-- From LAST = 0, its value at reset, the elapsed time is NOW itself (70_reset_and_hazards.md R303). -/
theorem intervalExceeded_from_zero_iff (now interval : BitVec 32) :
    intervalExceeded now 0#32 interval = true ↔ interval.toNat < now.toNat := by
  rw [intervalExceeded_iff, BitVec.sub_zero]

end Sys2Proof.Machine

namespace Sys2Proof

open Machine

/-- Settles O12: HOST steps and RxTimeout always answer, and the invariant has what the BLOCK and a byte need. -/
theorem noStepStopsUnderTheInvariant : Obligations.NoStepStopsUnderTheInvariant := by
  intro s inv
  cases action : s.nextAction with
  | block => exact inv.exists_step_of_block action
  | rxByte b =>
    rw [step_eq, action]
    exact inv.popAction.exists_rxByte b
  | enqueue | tick | shutdown | reset | drive | rxTimeout =>
    rw [step_eq, action]
    exact ⟨_, rfl⟩

/-- Settles O45, one corner of the interval check at a time. -/
theorem intervalCornerCases : Obligations.IntervalCornerCases := fun now last interval =>
  ⟨intervalExceeded_zero_iff now last, intervalExceeded_allOnes now last, intervalExceeded_from_zero_iff now interval⟩

end Sys2Proof

/-! Reset (70_reset_and_hazards.md): RESET brings R44's values back, whatever the block was doing. -/

namespace Sys2Proof

open Machine

/-- Settles O22: RESET leaves of the state only what is no element of the block, the reports among it, so each element is
at its value in `resetValues`. -/
theorem resetEffect : Obligations.ResetEffect := by
  intro s rest hsched
  obtain ⟨idle, tick, shutdown, overflow, queue, -, job, txEmpty, txLen, rxEmpty, rxCount, rxLimit, crcHi, crcLo, lastPoll,
    lastSync⟩ := resetValues
  have step_reset : step s = .next ({ s with schedule := rest } : State).resetBlock := step_of_schedule hsched
  exact ⟨_, step_reset, idle, tick, shutdown, overflow, queue, job, txLen, rxCount, rxLimit, txEmpty, rxEmpty, crcHi, crcLo,
    lastPoll, lastSync, rfl⟩

end Sys2Proof
